-- ==== Sys2Proof/Word.lean ====
section
/-!
DEFINITION. The plain words of the JFH-260: bytes, serials, travel words, counts, line masks, and a record of
eight like things (one per train line).
-/

namespace Sys2Proof

/-- A byte of the mill line or of the controller port (chapter 9, section 9.6). -/
abbrev Byte := BitVec 8

/-- A bar serial, 0 to 65,535; 0 marks an anonymous feature (R1). -/
abbrev Serial := BitVec 16

/-- Roll travel W or strip travel Z in travel units: both count modulo 2^48 (R23, R24). -/
abbrev TravelWord := BitVec 48

/-- A 16-bit saturating count (R9, R37, R73, R93, R94, R145). -/
abbrev Count16 := BitVec 16

/-- A set of train lines: bit n stands for TLn (section 9.6.1). -/
abbrev LineMask := BitVec 8

/-- A set tag, 0 to 254 (R1, R57). An absent tag is `none`; it is coded as 255. -/
abbrev SetTag := Fin 255

/-- Eight like things, one for each train line TL0 to TL7. -/
structure Eight (α : Type) where
  l0 : α
  l1 : α
  l2 : α
  l3 : α
  l4 : α
  l5 : α
  l6 : α
  l7 : α
  deriving DecidableEq, Repr

end Sys2Proof
end

