-- ==== Sys2Proof/Config.lean ====
section
/-!
DEFINITION. What the part fixes: capacities, limits, times and units. The spec leaves no value open, so there is
no free value here.
-/

namespace Sys2Proof.Config

/-- One millimetre in travel units (section 2.1). -/
def tuPerMm : Nat := 1024000

/-- Travel words count modulo 2^48 (R23). -/
def travelModulus : Nat := 2 ^ 48

/-- The position ceiling, 2^47 tu (R30). -/
def positionCeiling : Nat := 2 ^ 47

/-- The longest measurable pulse interval: T_p of this value means stalled; the stall time in µs (R25, R26). -/
def stalled : Nat := 65535

/-- An age of this value is stale (R32). -/
def staleAge : Nat := 65535

/-- The zone queue holds at most 6 records (R3). -/
def zoneCapacity : Nat := 6

/-- The expectation list holds at most 6 records (R54). -/
def expectationCapacity : Nat := 6

/-- The ready list holds at most 4 tags (R57). -/
def readyCapacity : Nat := 4

/-- The entry list holds at most 4 bars (R104). -/
def entryCapacity : Nat := 4

/-- The transmit queue has 8 places (R142). -/
def placeCapacity : Nat := 8

/-- The action queue holds at most 16 records (R160). -/
def actionCapacity : Nat := 16

/-- READ ACTIONS returns at most 8 records (R161). -/
def readActionsMost : Nat := 8

/-- ACTIONS_NEAR_FULL holds from 12 records on (R18). -/
def actionsNearFull : Nat := 12

/-- The largest slip code (R94). -/
def slipMax : Nat := 16384

/-- The largest bite-inhibit time in ms (R46). -/
def inhibitMost : Nat := 2000

/-- The claim repeat time, 10 ms, in µs (R150). -/
def claimRepeatTime : Nat := 10000

/-- The idle count saturates at 11, and the line is idle there (R135). -/
def idleBits : Nat := 11

/-- A frame whose content exceeds 96 bits before the closing run is OVERLONG (R139). -/
def longestContent : Nat := 96

end Sys2Proof.Config
end

