-- ==== Sys2Proof/Machine/LineCode.lean ====
section
/-!
DEFINITION. The coding of frames on the mill line (R133, R134, R137, R138, R139) and of blocks on the controller port
(R156, R157, section 9.6.2). A line bit is `true` when recessive (a 1) and `false` when dominant (a 0).
-/

namespace Sys2Proof.Machine

/-- The bits of a byte, most significant first (R133). -/
def byteBits (b : Byte) : List Bool :=
  [b.getLsbD 7, b.getLsbD 6, b.getLsbD 5, b.getLsbD 4, b.getLsbD 3, b.getLsbD 2, b.getLsbD 1, b.getLsbD 0]

/-- The bits of a run of bytes in the order in which they are sent (R133). -/
def bytesBits (bs : List Byte) : List Bool :=
  bs.flatMap byteBits

/-- The number that a run of bits spells, most significant first. -/
def bitsNat (bits : List Bool) : Nat :=
  bits.foldl (fun n b => 2 * n + b.toNat) 0

/-- The whole bytes of a run of bits; bits left over are dropped. -/
def packBytes : List Bool → List Byte
  | a :: b :: c :: d :: e :: f :: g :: h :: rest => BitVec.ofNat 8 (bitsNat [a, b, c, d, e, f, g, h]) :: packBytes rest
  | _ => []

/-- One step of the CRC register under x^16 + x^12 + x^5 + 1 (R137). -/
def crcStep (reg : BitVec 16) (b : Bool) : BitVec 16 :=
  if reg.msb == b then reg <<< 1 else (reg <<< 1) ^^^ 0x1021#16

/-- The CRC of a run of bits: the register starts at all ones and is not inverted (R137). -/
def crcOf (bits : List Bool) : BitVec 16 :=
  bits.foldl crcStep 0xFFFF#16

/-- The sixteen bits of a CRC, most significant first (R137). -/
def crcBits (crc : BitVec 16) : List Bool :=
  byteBits (crc.extractLsb' 8 8) ++ byteBits (crc.extractLsb' 0 8)

/-- Bit stuffing (R134): after 5 recessive bits a dominant bit, after 7 dominant bits a recessive bit, each starting a run
of its own. `level` and `run` are the run that stands so far. -/
def stuffFrom : Bool → Nat → List Bool → List Bool
  | _, _, [] => []
  | level, run, b :: bs =>
    let n := if b = level then run + 1 else 1
    if b = true ∧ n = 5 then b :: false :: stuffFrom false 1 bs
    else if b = false ∧ n = 7 then b :: true :: stuffFrom true 1 bs
    else b :: stuffFrom b n bs

/-- The line bits of a frame from its start of frame to its last CRC bit, stuff bits included (R134, R136, R137). `content`
is the header byte and the payload. -/
def frameLine (content : List Byte) : List Bool :=
  stuffFrom true 0 (false :: (bytesBits content ++ crcBits (crcOf (bytesBits content))))

/-- The header byte: class bit (0 urgent, 1 routine), position − 1 (here `station`) in three bits, kind code in
four (section 9.2). -/
def headerByte (routine : Bool) (station kind : Nat) : Byte :=
  BitVec.ofNat 8 (routine.toNat * 128 + station * 16 + kind)

/-- The payload length of each frame kind, codes 1 to 11 (section 9.6.1). -/
def payloadLength : Nat → Nat
  | 1 => 2
  | 2 => 4
  | 3 => 6
  | 4 => 6
  | 5 => 8
  | 6 => 5
  | 7 => 4
  | _ => 1

/-- What the receiver finds in the line bits after a start of frame (R138, R139). -/
inductive Verdict where
  /-- The bits end before the frame does. -/
  | incomplete
  /-- An eighth dominant bit of a run. -/
  | stuffing
  /-- More than 96 content bits before the closing run. -/
  | overlong
  /-- The frame does not end on a whole byte. -/
  | notWholeByte
  /-- Fewer than 3 bytes. -/
  | tooShort
  /-- The CRC fails. -/
  | crcFailed
  /-- A good CRC and a kind code of 0 or 12 to 15. -/
  | unknownKind
  /-- A payload length that is not that of the kind. -/
  | badLength
  /-- A valid frame: header byte and payload. -/
  | valid (header : Byte) (payload : List Byte)
  deriving DecidableEq, Repr

/-- The checks of a frame that ended on a whole byte, in their order (R139). -/
def checkContent (bits : List Bool) : Verdict :=
  let bytes := packBytes bits
  if bytes.length < 3 then .tooShort
  else if crcBits (crcOf (bits.take (bits.length - 16))) ≠ bits.drop (bits.length - 16) then .crcFailed
  else
    match bytes with
    | [] => .tooShort
    | header :: rest =>
      let kind := header.toNat % 16
      if kind = 0 ∨ 11 < kind then .unknownKind
      else if rest.length - 2 ≠ payloadLength kind then .badLength
      else .valid header (rest.take (rest.length - 2))

/-- The end of a frame at the sixth recessive bit of the closing run (R138). `n` content bits stood before that run. -/
def endFrame (content : List Bool) (n : Nat) : Verdict :=
  let k := (8 - n % 8) % 8
  if k ≤ 4 then checkContent (content.take n ++ List.replicate k true) else .notWholeByte

/-- The receiver in a frame (R134, R138, R139): the level and length of the run that stands, the content bits read so
far, and how many of them stood before that run began. -/
def readBits : Bool → Nat → List Bool → Nat → List Bool → Verdict
  | _, _, _, _, [] => .incomplete
  | level, run, content, mark, b :: bs =>
    if level = true ∧ run = 5 then
      if b then endFrame content mark
      else if Config.longestContent < content.length then .overlong
      else readBits false 1 content content.length bs
    else if level = false ∧ run = 7 then
      if b then readBits true 1 content content.length bs else .stuffing
    else if b = false ∧ Config.longestContent < content.length + 1 then .overlong
    else if b = level then readBits level (run + 1) (content ++ [b]) mark bs
    else readBits b 1 (content ++ [b]) content.length bs

/-- The verdict on the line bits that follow a start of frame, which is a run of one dominant bit (R134, R139). -/
def judgeLine (bits : List Bool) : Verdict :=
  readBits false 1 [] 0 bits

/-- The sum of all bytes of a block modulo 256 (section 9.6.2). -/
def blockSum (bs : List Byte) : Byte :=
  bs.foldl (· + ·) 0#8

/-- A whole block of the controller port around a code and the bytes after it: length byte first, check byte last
(section 9.6.2). -/
def sealBlock (body : List Byte) : List Byte :=
  let b := BitVec.ofNat 8 (body.length + 2) :: body
  b ++ [0#8 - blockSum b]

/-- What the port finds in the bytes that a transaction collected (R156, R157). -/
inductive BlockVerdict where
  /-- No byte, or a length byte of 0. -/
  | null
  /-- The block is too short or its bytes do not sum to 0; `code` is byte 1 of the response. -/
  | failed (code : Byte)
  /-- A sound block: its command code and its parameter bytes. -/
  | sound (code : Byte) (params : List Byte)
  deriving DecidableEq, Repr

/-- The port's reading of a transaction's bytes, in the order of R156 and R157. -/
def judgeBlock : List Byte → BlockVerdict
  | [] => .null
  | len :: rest =>
    let block := (len :: rest).take len.toNat
    if len = 0#8 then .null
    else if len.toNat < 3 ∨ rest.length + 1 < len.toNat ∨ blockSum block ≠ 0#8 then
      .failed (if block.length < 2 then 0#8 else block.getD 1 0#8)
    else .sound (block.getD 1 0#8) (block.drop 2).dropLast

/-- A command code that names a command of R158. -/
def knownCode (code : Byte) : Bool :=
  decide (1 ≤ code.toNat ∧ code.toNat ≤ 20)

end Sys2Proof.Machine
end

