-- ==== Sys2Proof/Syntax.lean ====
section
/-!
DEFINITION. The commands of the part: one constructor for each row of spec/opcode_table.json, with the row's
operands. `dt` is the whole microseconds that passed since the command before (R19; log entry 1); a timer's expiry
has none, because it happens when its timer reaches its limit (log entry 2).
-/

namespace Sys2Proof

/-- The three kinds of tracked point (section 1.1). -/
inductive FeatureKind where
  | head
  | tail
  | join
  deriving DecidableEq, Repr

/-- The four strap pins read at hardware reset; `true` is high (R146, R133). -/
structure Straps where
  first : Bool
  last : Bool
  rate1 : Bool
  rate0 : Bool
  deriving DecidableEq, Repr

/-- The two qualified inputs of the stand (R37). -/
inductive StandInput where
  | load
  | exit
  deriving DecidableEq, Repr

/-- The two signal inputs (R119). -/
inductive SignalInput where
  | sigin0
  | sigin1
  deriving DecidableEq, Repr

/-- The two neighbours (R80). -/
inductive Side where
  | upstream
  | downstream
  deriving DecidableEq, Repr

/-- The arbitration field of a frame: the class bit and position − 1 in three bits (section 9.2). -/
structure Arbitration where
  routine : Bool
  station : Fin 8
  deriving DecidableEq, Repr

/-- A change of the CHAIN-IN pin: `dt` µs after the command before, to a level (R147; log entry 26). -/
structure ChainInChange where
  dt : Nat
  level : Bool
  deriving DecidableEq, Repr

/-- A command to the part. Serials, tags, ages and masks of received frames are the raw payload fields of section
9.6.1; `params` of a port command are the bytes of its block between the command code and the check byte (R158). -/
inductive Instr where
  /-- R146: hardware reset, with the strap pins and CHAIN-IN at the levels given. -/
  | hardwareReset (straps : Straps) (chainIn : Bool)
  /-- R22: a rising edge on ENC. -/
  | encoderPulse (dt : Nat)
  /-- R26: the stall timer reaches 65,535 µs. -/
  | stallExpiry
  /-- R39: LOAD goes to `level`. -/
  | loadEdge (dt : Nat) (level : Bool)
  /-- R39: EXIT goes to `level`. -/
  | exitEdge (dt : Nat) (level : Bool)
  /-- R41: the qualification timer of an input reaches the qualify time. -/
  | qualificationExpiry (input : StandInput)
  /-- R45: a rising edge on JSTB. -/
  | joinStrobe (dt : Nat)
  /-- R49: the bite-inhibit countdown reaches zero. -/
  | biteInhibitExpiry
  /-- R132: the STROBE width runs out after the latest pulse start. -/
  | strobeEnd
  /-- R119: a signal input goes to `level`. -/
  | siginChange (dt : Nat) (input : SignalInput) (level : Bool)
  /-- R147: CHAIN-IN changes: the rise of the row, or the fall that a reset of the upstream station makes (R149;
  log entry 26). -/
  | chainInRise (change : ChainInChange)
  /-- R33, R135: a dominant bit is read that starts a frame when the receiver is READY. -/
  | startOfFrame (dt : Nat)
  /-- R144: the station may drive a start of frame. -/
  | attempt (dt : Nat)
  /-- R136: the attempt has driven its last CRC bit without a bit error. -/
  | frameSent (dt : Nat)
  /-- R136: the attempt reads dominant where it sent recessive in arbitration. -/
  | arbitrationLost (dt : Nat)
  /-- R136: the attempt reads another level than it sent at bit `bit` of the frame, counted from 0 at its start. -/
  | bitError (dt : Nat) (bit : Nat)
  /-- R139: the line bits read after the start of frame (`true` recessive) spell a frame that is not valid. -/
  | frameInvalid (dt : Nat) (bits : List Bool)
  /-- R147, R151: a valid CLAIM. -/
  | claimReceived (dt : Nat) (arb : Arbitration) (position : Byte) (flags : Byte)
  /-- R53: a valid OFFER. -/
  | offerReceived (dt : Nat) (arb : Arbitration) (serial : Serial) (kind : Byte) (tag : Byte)
  /-- R72: a valid TAKE. -/
  | takeReceived (dt : Nat) (arb : Arbitration) (serial : Serial) (kind : Byte) (anon : Byte) (age : BitVec 16)
  /-- R84: a valid PASS. -/
  | passReceived (dt : Nat) (arb : Arbitration) (serial : Serial) (tag : Byte) (flags : Byte) (age : BitVec 16)
  /-- R88: a valid LAPSE. -/
  | lapseReceived (dt : Nat) (arb : Arbitration) (serial : Serial) (tag : Byte) (flags : Byte) (overrun : BitVec 16) (age : BitVec 16)
  /-- R70: a valid BIND. -/
  | bindReceived (dt : Nat) (arb : Arbitration) (serial : Serial) (kind : Byte) (tag : Byte) (anon : Byte)
  /-- R81: a valid PACE: byte 0 (position − 1, condition code, counter), last-take serial and last-take kind. -/
  | paceReceived (dt : Nat) (arb : Arbitration) (head : Byte) (serial : Serial) (kind : Byte)
  /-- R125: a valid RAISE. -/
  | raiseReceived (dt : Nat) (arb : Arbitration) (mask : LineMask)
  /-- R125: a valid VETO. -/
  | vetoReceived (dt : Nat) (arb : Arbitration) (mask : LineMask)
  /-- R126: a valid ASK. -/
  | askReceived (dt : Nat) (arb : Arbitration) (mask : LineMask)
  /-- R127: a valid DROP. -/
  | dropReceived (dt : Nat) (arb : Arbitration) (mask : LineMask)
  /-- R78: the PACE timer expires. -/
  | paceTimerExpiry
  /-- R80: a neighbour's silence timer expires. -/
  | silenceTimerExpiry (side : Side)
  /-- R150: the claim repeat timer expires. -/
  | claimRepeatExpiry
  /-- R124: the veto window of a line runs out, and with it the windows that started with it. -/
  | vetoWindowExpiry (line : Fin 8)
  /-- R156: a transaction without a command block. -/
  | nullBlock (dt : Nat)
  /-- R157: a sound block whose code names no command. -/
  | unknownCommand (dt : Nat) (code : Byte)
  /-- R152. -/
  | configure (dt : Nat) (params : List Byte)
  /-- R155. -/
  | close (dt : Nat) (params : List Byte)
  /-- R105. -/
  | announce (dt : Nat) (params : List Byte)
  /-- R106. -/
  | withdraw (dt : Nat) (params : List Byte)
  /-- R57. -/
  | ready (dt : Nat) (params : List Byte)
  /-- R58. -/
  | unready (dt : Nat) (params : List Byte)
  /-- R118. -/
  | trip (dt : Nat) (params : List Byte)
  /-- R118. -/
  | clearTrip (dt : Nat) (params : List Byte)
  /-- R118. -/
  | signal (dt : Nat) (params : List Byte)
  /-- R15. -/
  | park (dt : Nat) (params : List Byte)
  /-- R16. -/
  | resume (dt : Nat) (params : List Byte)
  /-- R17. -/
  | clearTrack (dt : Nat) (params : List Byte)
  /-- R46. -/
  | inhibit (dt : Nat) (params : List Byte)
  /-- R102. -/
  | slip (dt : Nat) (params : List Byte)
  /-- R162. -/
  | attnEnable (dt : Nat) (params : List Byte)
  /-- R162. -/
  | attnDisable (dt : Nat) (params : List Byte)
  /-- R161. -/
  | readActions (dt : Nat) (params : List Byte)
  /-- R163. -/
  | readZone (dt : Nat) (params : List Byte)
  /-- R164. -/
  | readStation (dt : Nat) (params : List Byte)
  /-- R159. -/
  | clearCounts (dt : Nat) (params : List Byte)
  /-- R135: the idle count reaches 11. -/
  | lineIdle (dt : Nat)
  /-- R157: the bytes collected hold a block that is too short or fails its check byte. -/
  | blockCheckFailed (dt : Nat) (bytes : List Byte)
  deriving DecidableEq, Repr

end Sys2Proof
end

