-- ==== Sys2Proof/Machine/State.lean ====
section
/-!
DEFINITION. The state of the part: plain data, one group of fields for each block of section 2.1, and the queue of the
commands that wait. INVENTORY.md lists every item with the rule that names it and its reset value.
-/

namespace Sys2Proof.Machine

/-- The spec gives every event of the part an effect and no event that stops it, so no command faults: this type has no
constructor. A FAULT of the spec is an action record (R160), and STOPPED is a station state (R14). -/
inductive Fault where
  deriving DecidableEq, Repr

/-- Why a command has no meaning. No arm of exec answers with it. -/
inductive Refusal where
  /-- Raised by an arm of exec whose command is not modelled yet; safe, because nothing can be proved of it. -/
  | notModelled (mnemonic : String)
  deriving DecidableEq, Repr

/-! ### Start-up unit -/

/-- The six station states (R12). -/
inductive StationState where
  | unset
  | claiming
  | placed
  | tracking
  | parked
  | stopped
  deriving DecidableEq, Repr

/-- The last CLAIM heard: its position and its FIRST and LAST flags (R146). -/
structure ClaimHeard where
  position : Nat
  first : Bool
  last : Bool
  deriving DecidableEq, Repr

/-- The map of a signal pin: a line set and an inversion (R119, R131, R154). -/
structure PinMap where
  lines : LineMask
  inverted : Bool
  deriving DecidableEq, Repr

/-- The configuration record (R152). -/
structure Configuration where
  zoneLength : Nat
  pitch : Nat
  initialSlip : Nat
  gain : Nat
  qualify : Nat
  lateMargin : Nat
  earlyWindow : Nat
  pacePeriod : Nat
  silencePeriods : Nat
  strobeWidth : Nat
  sigout0 : PinMap
  sigout1 : PinMap
  sigout2 : PinMap
  sigout3 : PinMap
  sigin0 : PinMap
  sigin1 : PinMap
  deriving DecidableEq, Repr

/-- The start-up unit (R146). A timer is `none` when stopped and otherwise holds the moment of its expiry. -/
structure StartUp where
  station : StationState
  position : Nat
  straps : Straps
  lastClaim : Option ClaimHeard
  chainOut : Bool
  claimRepeat : Option Nat
  config : Configuration
  deriving DecidableEq, Repr

/-! ### Pins and travel counter -/

/-- The levels of the inputs that the part reads as levels; `true` is high (R39, R119, R147). -/
structure Pins where
  load : Bool
  exit : Bool
  sigin0 : Bool
  sigin1 : Bool
  chainIn : Bool
  deriving DecidableEq, Repr

/-- The travel counter (R20). `lastPulse` is the moment of the most recent counted pulse. -/
structure TravelCounter where
  w : TravelWord
  z : TravelWord
  r : Nat
  aLast : Nat
  tp : Nat
  stallRunning : Bool
  lastPulse : Nat
  restart : Bool
  deriving DecidableEq, Repr

/-! ### Stand sensing -/

/-- The edge latch: W, Z and the edge time (R37). -/
structure EdgeLatch where
  w : TravelWord
  z : TravelWord
  time : Nat
  deriving DecidableEq, Repr

/-- The states of an edge detector; the latch is held in QUAL_RISE and QUAL_FALL alone (R37). -/
inductive Detector where
  | dormant
  | armedLow
  | qualRise (latch : EdgeLatch)
  | armedHigh
  | qualFall (latch : EdgeLatch)
  | waitLow
  deriving DecidableEq, Repr

/-- Stand sensing (R37, R46). `inhibit` is the moment at which a running bite-inhibit countdown reaches zero. -/
structure Sensing where
  load : Detector
  exit : Detector
  qualifyFail : Count16
  inhibit : Option Nat
  deriving DecidableEq, Repr

/-! ### Zone tracker -/

/-- How a record came into the zone (R1). -/
inductive Origin where
  | bite
  | entry
  | passed
  | lapsed
  deriving DecidableEq, Repr

/-- The state of a feature (section 1.4). -/
inductive FeatureState where
  | travelling
  | due
  | passed
  | overdue
  deriving DecidableEq, Repr

/-- A feature record (R1). An anonymous tag of 0 is absent, as it is coded in frames and in READ ZONE. -/
structure FeatureRecord where
  serial : Serial
  kind : FeatureKind
  tag : Option SetTag
  anon : Byte
  entryW : TravelWord
  entryZ : TravelWord
  origin : Origin
  state : FeatureState
  learnable : Bool
  deriving DecidableEq, Repr

/-- The three thresholds fixed at CLOSE, in tu (R29). -/
structure Thresholds where
  endOfZone : Nat
  late : Nat
  early : Nat
  deriving DecidableEq, Repr

/-- The zone tracker; the front record is the list's head (R3, R9, R10, R29). -/
structure Zone where
  queue : List FeatureRecord
  overdueFlag : Bool
  earlyTakes : Count16
  thresholds : Thresholds
  deriving DecidableEq, Repr

/-! ### Hand-off unit -/

/-- An expectation (R54). -/
structure Expectation where
  serial : Serial
  kind : FeatureKind
  tag : Option SetTag
  deriving DecidableEq, Repr

/-- The serial and kind of a take (R66). -/
structure TakeRef where
  serial : Serial
  kind : FeatureKind
  deriving DecidableEq, Repr

/-- Whether a neighbour is heard (R80). -/
inductive Liveness where
  | unheard
  | present
  | silent
  deriving DecidableEq, Repr

/-- A neighbour record (R80). -/
structure Neighbour where
  liveness : Liveness
  code : Option (BitVec 3)
  counter : Option (BitVec 2)
  gaps : Byte
  lastTake : Option TakeRef
  silence : Option Nat
  deriving DecidableEq, Repr

/-- The hand-off unit (R54, R62, R66, R73, R78, R80, R93); the front expectation is the list's head. -/
structure HandOff where
  expectations : List Expectation
  anonCounter : Byte
  lastTake : Option TakeRef
  paceTimer : Option Nat
  paceCounter : BitVec 2
  up : Neighbour
  down : Neighbour
  unmatched : Count16
  discarded : Count16
  deriving DecidableEq, Repr

/-! ### Slip learner and entry unit -/

/-- What ended the crossing of a sample (R101). -/
inductive SampleSource where
  | take
  | exit
  deriving DecidableEq, Repr

/-- The outcome of a sample (R101). -/
inductive SampleOutcome where
  | accepted
  | clamped
  | rejectedZero
  | rejectedBand
  deriving DecidableEq, Repr

/-- The last-sample record (R101). -/
structure Sample where
  source : SampleSource
  serial : Serial
  rollTravel : Nat
  measured : Option Int
  outcome : SampleOutcome
  step : Int
  codeAfter : Nat
  deriving DecidableEq, Repr

/-- The slip learner (R94); `code` is S. -/
structure SlipLearner where
  code : Nat
  samples : Count16
  rejected : Count16
  last : Option Sample
  deriving DecidableEq, Repr

/-- A bar of the entry list (R104). -/
structure Bar where
  serial : Serial
  tag : Option SetTag
  joined : Bool
  deriving DecidableEq, Repr

/-- The entry unit; the front bar is the list's head (R104). -/
structure EntryUnit where
  bars : List Bar
  deriving DecidableEq, Repr

/-! ### Train lines -/

/-- The phase of the own ask of a line (R117). -/
inductive OwnAsk where
  | none
  | asking
  | window
  | dropping
  deriving DecidableEq, Repr

/-- What the part keeps for one train line (R117). `windowEnd` is the moment at which a running veto window expires. -/
structure TrainLine where
  copy : Bool
  contribution : Bool
  ask : OwnAsk
  windowEnd : Option Nat
  foreignAsk : Bool
  deriving DecidableEq, Repr

/-- The train-line block (R117); bit n of `signals` is the SIGNAL flag of TLn. -/
structure TrainLines where
  line : Eight TrainLine
  hostTrip : Bool
  signals : LineMask
  deriving DecidableEq, Repr

/-! ### Mill line interface -/

/-- The receiver's states (R135). -/
inductive Receiver where
  | hunt
  | ready
  | receiving
  deriving DecidableEq, Repr

/-- The start-of-frame latch and the moment it was made (R33). -/
structure SofLatch where
  w : TravelWord
  z : TravelWord
  tp : Nat
  aLast : Nat
  time : Nat
  deriving DecidableEq, Repr

/-- A running age count: it stood at `base` at the moment `since` (R32, R85). -/
structure AgeCount where
  base : Nat
  since : Nat
  deriving DecidableEq, Repr

/-- The content of a frame of the eight places, fixed when it is queued (R142); the age is stamped later. -/
inductive FrameBody where
  | claim (position : Nat) (first : Bool) (last : Bool)
  | offer (serial : Serial) (kind : FeatureKind) (tag : Option SetTag)
  | take (serial : Serial) (kind : FeatureKind) (anon : Byte)
  | pass (serial : Serial) (tag : Option SetTag) (estimated : Bool)
  | lapse (serial : Serial) (tag : Option SetTag) (estimated : Bool) (overrun : Nat)
  | bind (serial : Serial) (kind : FeatureKind) (tag : Option SetTag) (anon : Byte)
  | pace (position : Nat) (code : Nat) (counter : BitVec 2) (lastTake : Option TakeRef)
  deriving DecidableEq, Repr

/-- A frame in a place of the transmit queue (R142); `flying` while its attempt is under way (R144). -/
structure QueuedFrame where
  body : FrameBody
  age : Option AgeCount
  flying : Bool
  deriving DecidableEq, Repr

/-- The four train-line frames, in the order of R142 for equal filling times. -/
inductive LineKind where
  | raise
  | veto
  | ask
  | drop
  deriving DecidableEq, Repr

/-- A train-line slot: the waiting mask, empty when 0, and the filling time (R120, R142). -/
structure Slot where
  mask : LineMask
  filledAt : Nat
  deriving DecidableEq, Repr

/-- The four train-line slots (R142). -/
structure Slots where
  raise : Slot
  veto : Slot
  ask : Slot
  drop : Slot
  deriving DecidableEq, Repr

/-- What an attempt sends: the frame of a place, or the mask taken out of a slot with its filling time (R120, R144). -/
inductive FlightSource where
  | place (body : FrameBody)
  | slot (kind : LineKind) (mask : LineMask) (filledAt : Nat)
  deriving DecidableEq, Repr

/-- The frame in flight and the line bits that the attempt drives (R134, R136, R144). -/
structure Flight where
  source : FlightSource
  wire : List Bool
  deriving DecidableEq, Repr

/-- The mill line interface (R33, R135, R142, R144, R145); `queue` stands in the order of queueing. `ownTail` tells that the
frame being read is the station's own, sent to its last CRC bit and not yet ended (R135, R136, R138). -/
structure MillLine where
  rx : Receiver
  ownTail : Bool
  idle : Nat
  sof : SofLatch
  queue : List QueuedFrame
  slots : Slots
  flight : Option Flight
  rxErrors : Count16
  overlong : Count16
  unknownKinds : Count16
  txErrors : Count16
  txOverflows : Count16
  deriving DecidableEq, Repr

/-! ### Controller port -/

/-- The action kinds, in the order of their codes 1 to 16 (section 9.6.3). -/
inductive ActionKind where
  | bite
  | tailout
  | switch
  | prepare
  | handed
  | skipped
  | bound
  | overdue
  | lapsed
  | exitHead
  | exitTail
  | cut
  | tripOn
  | tripOff
  | neighbour
  | fault
  deriving DecidableEq, Repr

/-- The ready flag of an action (R59). -/
inductive ReadyFlag where
  | na
  | no
  | yes
  deriving DecidableEq, Repr

/-- An action record (section 9.6.3). A field that a rule does not name is at its default; `feature` is byte 3, `tag` is
byte 4, and `cls` is bits 7 to 6 of the flags. -/
structure Action where
  kind : ActionKind
  serial : Serial := 0#16
  feature : Byte := 0#8
  tag : Byte := 255#8
  ready : ReadyFlag := .na
  inhibited : Bool := false
  early : Bool := false
  estimated : Bool := false
  upEstimated : Bool := false
  cls : BitVec 2 := 0#2
  value : BitVec 16 := 0#16
  deriving DecidableEq, Repr

/-- The controller port (R57, R156, R160, R162); the front action and the oldest tag are the lists' heads. -/
structure Port where
  held : List Byte
  ready : List SetTag
  actions : List Action
  overflow : Byte
  attnLatch : Bool
  attnEnable : Bool
  deriving DecidableEq, Repr

/-! ### The whole part -/

/-- The state of the part. `now` is its time base in µs (R19). `strobe` is the moment at which a running STROBE pulse
ends (R132). `pending` is the model's own queue of commands. -/
structure State where
  now : Nat
  pins : Pins
  startup : StartUp
  travel : TravelCounter
  sensing : Sensing
  zone : Zone
  handoff : HandOff
  slip : SlipLearner
  entry : EntryUnit
  lines : TrainLines
  strobe : Option Nat
  mill : MillLine
  port : Port
  pending : List Instr
  deriving DecidableEq, Repr

/-! ### Hardware reset -/

/-- A map with an empty line set and inversion off (R152). -/
def PinMap.empty : PinMap := { lines := 0#8, inverted := false }

/-- The configuration record with every item at its default (R152). -/
def Configuration.default : Configuration where
  zoneLength := 5500
  pitch := 1024000
  initialSlip := 3277
  gain := 4
  qualify := 2000
  lateMargin := 400
  earlyWindow := 600
  pacePeriod := 20
  silencePeriods := 4
  strobeWidth := 100
  sigout0 := PinMap.empty
  sigout1 := PinMap.empty
  sigout2 := PinMap.empty
  sigout3 := PinMap.empty
  sigin0 := PinMap.empty
  sigin1 := PinMap.empty

/-- A neighbour record after hardware reset (R80). -/
def Neighbour.fresh : Neighbour where
  liveness := .unheard
  code := none
  counter := none
  gaps := 0#8
  lastTake := none
  silence := none

/-- A train line after hardware reset (R117). -/
def TrainLine.fresh : TrainLine where
  copy := false
  contribution := false
  ask := .none
  windowEnd := none
  foreignAsk := false

/-- An empty train-line slot. -/
def Slot.empty : Slot := { mask := 0#8, filledAt := 0 }

/-- The part right after hardware reset with every strap low: UNSET, every item at its reset value (R12, R146; log
entries 1 and 5 to 8 name the values the spec leaves open). -/
def State.reset : State where
  now := 0
  pins := { load := false, exit := false, sigin0 := false, sigin1 := false, chainIn := false }
  startup :=
    { station := .unset, position := 0,
      straps := { first := false, last := false, rate1 := false, rate0 := false },
      lastClaim := none, chainOut := false, claimRepeat := none, config := Configuration.default }
  travel :=
    { w := 0#48, z := 0#48, r := 0, aLast := 0, tp := 65535, stallRunning := false, lastPulse := 0, restart := true }
  sensing := { load := .dormant, exit := .dormant, qualifyFail := 0#16, inhibit := none }
  zone :=
    { queue := [], overdueFlag := false, earlyTakes := 0#16,
      thresholds := { endOfZone := 5632000000, late := 6041600000, early := 5017600000 } }
  handoff :=
    { expectations := [], anonCounter := 0#8, lastTake := none, paceTimer := none, paceCounter := 0#2,
      up := Neighbour.fresh, down := Neighbour.fresh, unmatched := 0#16, discarded := 0#16 }
  slip := { code := 3277, samples := 0#16, rejected := 0#16, last := none }
  entry := { bars := [] }
  lines :=
    { line := ⟨TrainLine.fresh, TrainLine.fresh, TrainLine.fresh, TrainLine.fresh,
               TrainLine.fresh, TrainLine.fresh, TrainLine.fresh, TrainLine.fresh⟩,
      hostTrip := false, signals := 0#8 }
  strobe := none
  mill :=
    { rx := .hunt, ownTail := false, idle := 0, sof := { w := 0#48, z := 0#48, tp := 65535, aLast := 0, time := 0 },
      queue := [], slots := { raise := Slot.empty, veto := Slot.empty, ask := Slot.empty, drop := Slot.empty },
      flight := none, rxErrors := 0#16, overlong := 0#16, unknownKinds := 0#16, txErrors := 0#16, txOverflows := 0#16 }
  port :=
    { held := [4#8, 0#8, 0#8, 252#8], ready := [], actions := [], overflow := 0#8, attnLatch := false, attnEnable := false }
  pending := []

end Sys2Proof.Machine
end

