-- ==== Sys2Proof/Machine/Operands.lean ====
section
/-!
DEFINITION. The coding of fields in frames, blocks, action records and READ data (section 9.6), and the reading of a
command's operands.
-/

namespace Sys2Proof

/-- The position that an arbitration field names, 1 to 8 (section 9.2). -/
def Arbitration.position (arb : Arbitration) : Nat := arb.station.val + 1

/-- The code of a feature kind: 1 HEAD, 2 TAIL, 3 JOIN (section 9.6.1). -/
def FeatureKind.code : FeatureKind → Byte
  | .head => 1#8
  | .tail => 2#8
  | .join => 3#8

/-- The feature kind that a kind field names, if any (R53, R72). -/
def FeatureKind.ofCode (b : Byte) : Option FeatureKind :=
  if b = 1#8 then some .head else if b = 2#8 then some .tail else if b = 3#8 then some .join else none

namespace Machine

/-- A number in a field of `n` bytes, high byte first (section 9.6.2). -/
def bigEndian : Nat → Nat → List Byte
  | 0, _ => []
  | n + 1, v => bigEndian n (v / 256) ++ [BitVec.ofNat 8 v]

/-- The number that bytes spell, high byte first (R158). -/
def ofBigEndian (bs : List Byte) : Nat :=
  bs.foldl (fun n b => 256 * n + b.toNat) 0

/-- A 16-bit field from its two bytes, high byte first (R158). -/
def word16 (hi lo : Byte) : BitVec 16 := hi ++ lo

/-- A count saturated in a 16-bit field (R31). -/
def saturate16 (n : Nat) : BitVec 16 := BitVec.ofNat 16 (min n 65535)

/-- A 16-bit count after it rises by one; it stays at 65,535 (section 4, R9). -/
def satInc16 (c : Count16) : Count16 := if c = 65535#16 then c else c + 1#16

/-- An 8-bit count after it rises by one; it stays at 255 (R160). -/
def satInc8 (c : Byte) : Byte := if c = 255#8 then c else c + 1#8

/-- A flag as bit `n` of a byte. -/
def flagBit (b : Bool) (n : Nat) : Byte := if b then 1#8 <<< n else 0#8

/-- A set tag as it is sent: 255 when absent (section 9.6.1). -/
def tagCode : Option SetTag → Byte
  | none => 255#8
  | some t => BitVec.ofNat 8 t.val

/-- The set tag that a tag field names: 255 is absent (R53). -/
def tagOfByte (b : Byte) : Option SetTag :=
  if h : b.toNat < 255 then some ⟨b.toNat, h⟩ else none

/-- The code of an answer (section 9.6.2). -/
inductive Answer where
  | done
  | clamped
  | wrongState
  | full
  | duplicate
  | notFound
  | notClear
  | badValue
  | unknown
  | checkFailed
  deriving DecidableEq, Repr

/-- The value of a response code (section 9.6.2). -/
def Answer.code : Answer → Byte
  | .done => 0#8
  | .clamped => 1#8
  | .wrongState => 2#8
  | .full => 3#8
  | .duplicate => 4#8
  | .notFound => 5#8
  | .notClear => 6#8
  | .badValue => 7#8
  | .unknown => 8#8
  | .checkFailed => 9#8

/-- The code of an action kind (section 9.6.3). -/
def ActionKind.code : ActionKind → Byte
  | .bite => 1#8
  | .tailout => 2#8
  | .switch => 3#8
  | .prepare => 4#8
  | .handed => 5#8
  | .skipped => 6#8
  | .bound => 7#8
  | .overdue => 8#8
  | .lapsed => 9#8
  | .exitHead => 10#8
  | .exitTail => 11#8
  | .cut => 12#8
  | .tripOn => 13#8
  | .tripOff => 14#8
  | .neighbour => 15#8
  | .fault => 16#8

/-- The two bits of a ready flag (section 9.6.3). -/
def ReadyFlag.code : ReadyFlag → Byte
  | .na => 0#8
  | .no => 1#8
  | .yes => 2#8

/-- The flags byte of an action record (section 9.6.3). -/
def Action.flags (a : Action) : Byte :=
  a.ready.code ||| flagBit a.inhibited 2 ||| flagBit a.early 3 ||| flagBit a.estimated 4 ||| flagBit a.upEstimated 5
    ||| (a.cls.setWidth 8 <<< 6)

/-- The eight bytes of an action record (section 9.6.3). -/
def Action.bytes (a : Action) : List Byte :=
  [a.kind.code] ++ bigEndian 2 a.serial.toNat ++ [a.feature, a.tag, a.flags] ++ bigEndian 2 a.value.toNat

/-- The causes of a FAULT (section 9.6.3). -/
inductive FaultCause where
  | zoneFull
  | sequence
  | expectFull
  | txOverflow
  | positionClash
  | trainTooLong
  | bitePresent
  | exitUnexpected
  | joinUnannounced
  | entryMismatch
  deriving DecidableEq, Repr

/-- The cause value of a FAULT record (section 9.6.3). -/
def FaultCause.code : FaultCause → BitVec 16
  | .zoneFull => 1#16
  | .sequence => 2#16
  | .expectFull => 3#16
  | .txOverflow => 4#16
  | .positionClash => 5#16
  | .trainTooLong => 6#16
  | .bitePresent => 7#16
  | .exitUnexpected => 8#16
  | .joinUnannounced => 9#16
  | .entryMismatch => 10#16

/-- A FAULT record: cause, serial, byte 3 and byte 4 (section 9.6.3). -/
def faultAction (cause : FaultCause) (serial : Serial) (feature : Byte) (tag : Byte := 255#8) : Action :=
  { kind := .fault, serial := serial, feature := feature, tag := tag, value := cause.code }

/-- The frame kind codes of the eight-place frames (section 9.6.1). -/
def FrameBody.kindCode : FrameBody → Nat
  | .claim _ _ _ => 1
  | .offer _ _ _ => 2
  | .take _ _ _ => 3
  | .pass _ _ _ => 4
  | .lapse _ _ _ _ => 5
  | .bind _ _ _ _ => 6
  | .pace _ _ _ _ => 7

/-- The class of a frame: CLAIM, OFFER and PACE are routine, the others urgent (section 9.6.1). -/
def FrameBody.routine : FrameBody → Bool
  | .claim _ _ _ => true
  | .offer _ _ _ => true
  | .take _ _ _ => false
  | .pass _ _ _ => false
  | .lapse _ _ _ _ => false
  | .bind _ _ _ _ => false
  | .pace _ _ _ _ => true

/-- The frame is a PACE. -/
def FrameBody.isPace : FrameBody → Bool
  | .pace _ _ _ _ => true
  | _ => false

/-- The frame is a CLAIM. -/
def FrameBody.isClaim : FrameBody → Bool
  | .claim _ _ _ => true
  | _ => false

/-- The serial that a FAULT TX_OVERFLOW of the frame carries (R143). -/
def FrameBody.serial : FrameBody → Serial
  | .claim _ _ _ => 0#16
  | .offer serial _ _ => serial
  | .take serial _ _ => serial
  | .pass serial _ _ => serial
  | .lapse serial _ _ _ => serial
  | .bind serial _ _ _ => serial
  | .pace _ _ _ _ => 0#16

/-- The feature kind that a FAULT TX_OVERFLOW of the frame carries: that of a TAKE or a BIND, and JOIN for a PASS or a
LAPSE (R143). -/
def FrameBody.featureCode : FrameBody → Byte
  | .claim _ _ _ => 0#8
  | .offer _ kind _ => kind.code
  | .take _ kind _ => kind.code
  | .pass _ _ _ => FeatureKind.join.code
  | .lapse _ _ _ _ => FeatureKind.join.code
  | .bind _ kind _ _ => kind.code
  | .pace _ _ _ _ => 0#8

/-- The serial of a reported take, 0 for "none" (section 9.6.1). -/
def takeRefSerial : Option TakeRef → Serial
  | none => 0#16
  | some t => t.serial

/-- The kind code of a reported take, 0 for "none" (section 9.6.1). -/
def takeRefKind : Option TakeRef → Byte
  | none => 0#8
  | some t => t.kind.code

/-- The payload of a frame with its age stamped (section 9.6.1, R32). -/
def FrameBody.payload (age : Nat) : FrameBody → List Byte
  | .claim position first last => [BitVec.ofNat 8 position, flagBit first 0 ||| flagBit last 1]
  | .offer serial kind tag => bigEndian 2 serial.toNat ++ [kind.code, tagCode tag]
  | .take serial kind anon => bigEndian 2 serial.toNat ++ [kind.code, anon] ++ bigEndian 2 age
  | .pass serial tag estimated => bigEndian 2 serial.toNat ++ [tagCode tag, flagBit estimated 0] ++ bigEndian 2 age
  | .lapse serial tag estimated overrun =>
    bigEndian 2 serial.toNat ++ [tagCode tag, flagBit estimated 0] ++ bigEndian 2 overrun ++ bigEndian 2 age
  | .bind serial kind tag anon => bigEndian 2 serial.toNat ++ [kind.code, tagCode tag, anon]
  | .pace position code counter last =>
    [BitVec.ofNat 8 ((position - 1) * 32 + code * 4 + counter.toNat)] ++ bigEndian 2 (takeRefSerial last).toNat
      ++ [takeRefKind last]

/-- The kind code of a train-line frame (section 9.6.1). -/
def LineKind.code : LineKind → Nat
  | .raise => 8
  | .ask => 9
  | .veto => 10
  | .drop => 11

/-- What a received PACE says: the position field, condition code and counter of its first byte (section 9.6.1). -/
structure PaceHead where
  position : Nat
  code : BitVec 3
  counter : BitVec 2
  deriving DecidableEq, Repr

/-- The reading of a PACE's first byte: position − 1 in bits 7 to 5, condition code in bits 4 to 2, counter in bits 1 to 0
(section 9.6.1). -/
def readPaceHead (b : Byte) : PaceHead :=
  { position := (b.extractLsb' 5 3).toNat + 1, code := b.extractLsb' 2 3, counter := b.extractLsb' 0 2 }

/-- The last take that a PACE reports: `none` when its kind field names nothing, `some none` for "none" (R81). -/
def readLastTake (serial : Serial) (kind : Byte) : Option (Option TakeRef) :=
  if kind = 0#8 then some none
  else
    match FeatureKind.ofCode kind with
    | none => none
    | some k => some (some { serial := serial, kind := k })

/-- The tag that an OFFER or a BIND gives a feature: a TAIL carries none (R53, R70). -/
def tagForKind (kind : FeatureKind) (tag : Byte) : Option SetTag :=
  if kind = .tail then none else tagOfByte tag

end Machine

end Sys2Proof
end

