-- ==== Sys2Proof/WellFormed.lean ====
section
/-!
DEFINITION. Which commands name an event that can occur. The operands' ranges are in their types; what is checked here is
that the line bits of FRAME_INVALID spell a frame that is not valid, that the bytes of BLOCK_CHECK_FAILED fail a check of
R157, and that the code of UNKNOWN_COMMAND names no command. A command that is not well formed names no event of the part,
and its meaning lets the time pass and changes nothing else (log entry 4).
-/

namespace Sys2Proof

/-- A verdict of R139 that discards, ignores or abandons the frame. -/
def Machine.Verdict.rejects : Machine.Verdict → Bool
  | .incomplete => false
  | .valid _ _ => false
  | .stuffing => true
  | .overlong => true
  | .notWholeByte => true
  | .tooShort => true
  | .crcFailed => true
  | .unknownKind => true
  | .badLength => true

/-- A verdict of R157 that makes CHECK_FAILED the answer. -/
def Machine.BlockVerdict.fails : Machine.BlockVerdict → Bool
  | .null => false
  | .failed _ => true
  | .sound _ _ => false

/-- The command names an event that can occur. -/
def Instr.wellFormed : Instr → Bool
  | .hardwareReset _ _ => true
  | .encoderPulse _ => true
  | .stallExpiry => true
  | .loadEdge _ _ => true
  | .exitEdge _ _ => true
  | .qualificationExpiry _ => true
  | .joinStrobe _ => true
  | .biteInhibitExpiry => true
  | .strobeEnd => true
  | .siginChange _ _ _ => true
  | .chainInRise _ => true
  | .startOfFrame _ => true
  | .attempt _ => true
  | .frameSent _ => true
  | .arbitrationLost _ => true
  | .bitError _ _ => true
  | .frameInvalid _ bits => (Machine.judgeLine bits).rejects
  | .claimReceived _ _ _ _ => true
  | .offerReceived _ _ _ _ _ => true
  | .takeReceived _ _ _ _ _ _ => true
  | .passReceived _ _ _ _ _ _ => true
  | .lapseReceived _ _ _ _ _ _ _ => true
  | .bindReceived _ _ _ _ _ _ => true
  | .paceReceived _ _ _ _ _ => true
  | .raiseReceived _ _ _ => true
  | .vetoReceived _ _ _ => true
  | .askReceived _ _ _ => true
  | .dropReceived _ _ _ => true
  | .paceTimerExpiry => true
  | .silenceTimerExpiry _ => true
  | .claimRepeatExpiry => true
  | .vetoWindowExpiry _ => true
  | .nullBlock _ => true
  | .unknownCommand _ code => !Machine.knownCode code
  | .configure _ _ => true
  | .close _ _ => true
  | .announce _ _ => true
  | .withdraw _ _ => true
  | .ready _ _ => true
  | .unready _ _ => true
  | .trip _ _ => true
  | .clearTrip _ _ => true
  | .signal _ _ => true
  | .park _ _ => true
  | .resume _ _ => true
  | .clearTrack _ _ => true
  | .inhibit _ _ => true
  | .slip _ _ => true
  | .attnEnable _ _ => true
  | .attnDisable _ _ => true
  | .readActions _ _ => true
  | .readZone _ _ => true
  | .readStation _ _ => true
  | .clearCounts _ _ => true
  | .lineIdle _ => true
  | .blockCheckFailed _ bytes => (Machine.judgeBlock bytes).fails

end Sys2Proof
end

