-- ==== Sys2Proof/Decode.lean ====
section
/-!
DEFINITION. How bytes and bits name commands. spec/opcode_table.json gives its rows no bits, so no word spells a command
(log entry 17). What the spec does lay out is read here: the bytes of a controller-port transaction (R156 to R158) and the
line bits of a frame of another station (R138, R139, section 9.6.1); beside each stands its encoder.
-/

namespace Sys2Proof

/-- The command that a word of the opcode table spells: none, because the table gives no row any bits (log entry 17). -/
def decodeTableWord (_nbits _w : Nat) : Option Instr := none

/-! ### Controller port -/

/-- The command that a sound block names by its code (R158). -/
def blockCommand (dt : Nat) (code : Byte) (params : List Byte) : Instr :=
  match code.toNat with
  | 1 => .configure dt params
  | 2 => .close dt params
  | 3 => .announce dt params
  | 4 => .withdraw dt params
  | 5 => .ready dt params
  | 6 => .unready dt params
  | 7 => .trip dt params
  | 8 => .clearTrip dt params
  | 9 => .signal dt params
  | 10 => .park dt params
  | 11 => .resume dt params
  | 12 => .clearTrack dt params
  | 13 => .inhibit dt params
  | 14 => .slip dt params
  | 15 => .attnEnable dt params
  | 16 => .attnDisable dt params
  | 17 => .readActions dt params
  | 18 => .readZone dt params
  | 19 => .readStation dt params
  | 20 => .clearCounts dt params
  | _ => .unknownCommand dt code

/-- The command that a transaction gives at the release of SEL, from the bytes it collected on SDI (R156, R157). -/
def portCommand (dt : Nat) (bytes : List Byte) : Instr :=
  match Machine.judgeBlock bytes with
  | .null => .nullBlock dt
  | .failed _ => .blockCheckFailed dt bytes
  | .sound code params => blockCommand dt code params

/-- The code and the parameter bytes of a port command (R158), for the commands that a sound block carries. -/
def Instr.block : Instr → Option (Byte × List Byte)
  | .unknownCommand _ code => some (code, [])
  | .configure _ params => some (1#8, params)
  | .close _ params => some (2#8, params)
  | .announce _ params => some (3#8, params)
  | .withdraw _ params => some (4#8, params)
  | .ready _ params => some (5#8, params)
  | .unready _ params => some (6#8, params)
  | .trip _ params => some (7#8, params)
  | .clearTrip _ params => some (8#8, params)
  | .signal _ params => some (9#8, params)
  | .park _ params => some (10#8, params)
  | .resume _ params => some (11#8, params)
  | .clearTrack _ params => some (12#8, params)
  | .inhibit _ params => some (13#8, params)
  | .slip _ params => some (14#8, params)
  | .attnEnable _ params => some (15#8, params)
  | .attnDisable _ params => some (16#8, params)
  | .readActions _ params => some (17#8, params)
  | .readZone _ params => some (18#8, params)
  | .readStation _ params => some (19#8, params)
  | .clearCounts _ params => some (20#8, params)
  | _ => none

/-! ### Mill line -/

/-- The arbitration field of a header byte (section 9.2). -/
def Arbitration.ofHeader (header : Byte) : Arbitration where
  routine := header.getLsbD 7
  station := (header.extractLsb' 4 3).toFin

/-- The header byte of a frame of one kind (section 9.2). -/
def Arbitration.header (arb : Arbitration) (kind : Nat) : Byte :=
  Machine.headerByte arb.routine arb.station.val kind

/-- The command that a valid frame names, from its header byte and its payload (sections 9.2 and 9.6.1). -/
def contentCommand (dt : Nat) (header : Byte) (payload : List Byte) : Option Instr :=
  let arb := Arbitration.ofHeader header
  match header.toNat % 16, payload with
  | 1, [position, flags] => some (.claimReceived dt arb position flags)
  | 2, [hi, lo, kind, tag] => some (.offerReceived dt arb (Machine.word16 hi lo) kind tag)
  | 3, [hi, lo, kind, anon, ageHi, ageLo] =>
    some (.takeReceived dt arb (Machine.word16 hi lo) kind anon (Machine.word16 ageHi ageLo))
  | 4, [hi, lo, tag, flags, ageHi, ageLo] =>
    some (.passReceived dt arb (Machine.word16 hi lo) tag flags (Machine.word16 ageHi ageLo))
  | 5, [hi, lo, tag, flags, overHi, overLo, ageHi, ageLo] =>
    some (.lapseReceived dt arb (Machine.word16 hi lo) tag flags (Machine.word16 overHi overLo)
      (Machine.word16 ageHi ageLo))
  | 6, [hi, lo, kind, tag, anon] => some (.bindReceived dt arb (Machine.word16 hi lo) kind tag anon)
  | 7, [head, hi, lo, kind] => some (.paceReceived dt arb head (Machine.word16 hi lo) kind)
  | 8, [mask] => some (.raiseReceived dt arb mask)
  | 9, [mask] => some (.askReceived dt arb mask)
  | 10, [mask] => some (.vetoReceived dt arb mask)
  | 11, [mask] => some (.dropReceived dt arb mask)
  | _, _ => none

/-- The command that the line bits after a start of frame name at the end of the frame: a received frame, or a frame that
is not valid; none while the frame has not ended (R138, R139). -/
def lineCommand (dt : Nat) (bits : List Bool) : Option Instr :=
  match Machine.judgeLine bits with
  | .incomplete => none
  | .valid header payload => contentCommand dt header payload
  | .stuffing => some (.frameInvalid dt bits)
  | .overlong => some (.frameInvalid dt bits)
  | .notWholeByte => some (.frameInvalid dt bits)
  | .tooShort => some (.frameInvalid dt bits)
  | .crcFailed => some (.frameInvalid dt bits)
  | .unknownKind => some (.frameInvalid dt bits)
  | .badLength => some (.frameInvalid dt bits)

/-- The header byte and the payload of the frame that a received-frame command stands for (section 9.6.1). -/
def Instr.content : Instr → Option (List Byte)
  | .claimReceived _ arb position flags => some [arb.header 1, position, flags]
  | .offerReceived _ arb serial kind tag =>
    some ([arb.header 2] ++ Machine.bigEndian 2 serial.toNat ++ [kind, tag])
  | .takeReceived _ arb serial kind anon age =>
    some ([arb.header 3] ++ Machine.bigEndian 2 serial.toNat ++ [kind, anon] ++ Machine.bigEndian 2 age.toNat)
  | .passReceived _ arb serial tag flags age =>
    some ([arb.header 4] ++ Machine.bigEndian 2 serial.toNat ++ [tag, flags] ++ Machine.bigEndian 2 age.toNat)
  | .lapseReceived _ arb serial tag flags overrun age =>
    some ([arb.header 5] ++ Machine.bigEndian 2 serial.toNat ++ [tag, flags] ++ Machine.bigEndian 2 overrun.toNat
      ++ Machine.bigEndian 2 age.toNat)
  | .bindReceived _ arb serial kind tag anon =>
    some ([arb.header 6] ++ Machine.bigEndian 2 serial.toNat ++ [kind, tag, anon])
  | .paceReceived _ arb head serial kind =>
    some ([arb.header 7, head] ++ Machine.bigEndian 2 serial.toNat ++ [kind])
  | .raiseReceived _ arb mask => some [arb.header 8, mask]
  | .askReceived _ arb mask => some [arb.header 9, mask]
  | .vetoReceived _ arb mask => some [arb.header 10, mask]
  | .dropReceived _ arb mask => some [arb.header 11, mask]
  | _ => none

/-- The end delimiter: 8 recessive bits, not stuffed (section 9.2). -/
def endDelimiter : List Bool := List.replicate 8 true

/-- The line bits of a frame after its start of frame, end delimiter included (R134, R137). -/
def frameBits (content : List Byte) : List Bool := (Machine.frameLine content).drop 1 ++ endDelimiter

end Sys2Proof
end

