-- ==== Sys2Proof/Machine/Flags.lean ====
section
/-!
DEFINITION. What the spec computes from the state each time it is asked for: positions, masks of the train lines, the
contributions' sources, the condition code, the strip speed, and the outputs ATTN and SIGOUT.
-/

namespace Sys2Proof

/-- The thing of one train line. -/
def Eight.get {α : Type} (x : Eight α) (n : Fin 8) : α :=
  match n with
  | 0 => x.l0
  | 1 => x.l1
  | 2 => x.l2
  | 3 => x.l3
  | 4 => x.l4
  | 5 => x.l5
  | 6 => x.l6
  | 7 => x.l7

/-- The things of the lines in a mask changed by `f`, the others as they stand. -/
def Eight.mapMask {α : Type} (m : LineMask) (f : α → α) (x : Eight α) : Eight α where
  l0 := if m.getLsbD 0 then f x.l0 else x.l0
  l1 := if m.getLsbD 1 then f x.l1 else x.l1
  l2 := if m.getLsbD 2 then f x.l2 else x.l2
  l3 := if m.getLsbD 3 then f x.l3 else x.l3
  l4 := if m.getLsbD 4 then f x.l4 else x.l4
  l5 := if m.getLsbD 5 then f x.l5 else x.l5
  l6 := if m.getLsbD 6 then f x.l6 else x.l6
  l7 := if m.getLsbD 7 then f x.l7 else x.l7

/-- The mask of the lines whose thing has a property. -/
def Eight.mask {α : Type} (p : α → Bool) (x : Eight α) : LineMask :=
  Machine.flagBit (p x.l0) 0 ||| Machine.flagBit (p x.l1) 1 ||| Machine.flagBit (p x.l2) 2 ||| Machine.flagBit (p x.l3) 3
    ||| Machine.flagBit (p x.l4) 4 ||| Machine.flagBit (p x.l5) 5 ||| Machine.flagBit (p x.l6) 6
    ||| Machine.flagBit (p x.l7) 7

namespace Machine

/-! ### Station -/

/-- PLACED, TRACKING or PARKED: the states in which neighbours are recorded and train lines exchanged (R13). -/
def StationState.operating : StationState → Bool
  | .unset => false
  | .claiming => false
  | .placed => true
  | .tracking => true
  | .parked => true
  | .stopped => false

/-- The station has an upstream neighbour record: it is not strapped FIRST (R80). -/
def State.keepsUp (s : State) : Bool := !s.startup.straps.first

/-- The station has a downstream neighbour record: it is not strapped LAST (R80). -/
def State.keepsDown (s : State) : Bool := !s.startup.straps.last

/-- The frame comes from position own−1 (section 4.1). -/
def State.fromUpstream (s : State) (arb : Arbitration) : Bool := arb.position + 1 == s.startup.position

/-- The frame comes from position own+1 (section 4.1). -/
def State.fromDownstream (s : State) (arb : Arbitration) : Bool := arb.position == s.startup.position + 1

/-- A station repeats its CLAIM when it is not strapped LAST and its position is below 8 (R149, R151). -/
def State.repeatsClaim (s : State) : Bool := !s.startup.straps.last && decide (s.startup.position < 8)

/-- The silence time in µs: silence periods times PACE period (R80). -/
def Configuration.silenceTime (c : Configuration) : Nat := c.silencePeriods * c.pacePeriod * 1000

/-- The veto window in µs: 500 bit times at the strapped rate (R124, R133). -/
def vetoWindowTime (straps : Straps) : Nat :=
  if straps.rate1 then 250 else if straps.rate0 then 500 else 1000

/-! ### Travel and zone -/

/-- The position of a record at strip travel `z`, in tu (R2). -/
def FeatureRecord.position (r : FeatureRecord) (z : TravelWord) : Nat := (z - r.entryZ).toNat

/-- A distance in tu as whole millimetres, rounded down (R31). -/
def toMm (tu : Nat) : Nat := tu / Config.tuPerMm

/-- The thresholds of a configuration record (R29). -/
def Configuration.thresholds (c : Configuration) : Thresholds where
  endOfZone := c.zoneLength * Config.tuPerMm
  late := (c.zoneLength + c.lateMargin) * Config.tuPerMm
  early := (c.zoneLength - c.earlyWindow) * Config.tuPerMm

/-- A HEAD that counts for THREAD: TRAVELLING, DUE or OVERDUE (R11). -/
def FeatureRecord.untakenHead (r : FeatureRecord) : Bool :=
  r.kind == .head && r.state != .passed

/-- The strip speed in mm/s (R36). -/
def State.stripSpeed (s : State) : Nat :=
  if s.startup.station = .tracking ∧ s.travel.tp ≠ Config.stalled then
    min 65535 (s.travel.aLast * 125 / (s.travel.tp * 128))
  else 0

/-! ### Train lines -/

/-- The lines whose copy is high. -/
def State.copies (s : State) : LineMask := s.lines.line.mask (·.copy)

/-- The lines whose own contribution is set. -/
def State.contributions (s : State) : LineMask := s.lines.line.mask (·.contribution)

/-- The lines on which a foreign ask was heard. -/
def State.foreignAsks (s : State) : LineMask := s.lines.line.mask (·.foreignAsk)

/-- The lines whose own ask stands in a phase (R117). -/
def State.askPhase (s : State) (phase : OwnAsk) : LineMask := s.lines.line.mask (fun l => l.ask == phase)

/-- The lines to which an active signal input contributes (R119). -/
def PinMap.activeLines (map : PinMap) (level : Bool) : LineMask :=
  if level != map.inverted then map.lines else 0#8

/-- The sources of the own contributions: the table of section 8.1 with R10, R11, R118 and R119. -/
def State.sources (s : State) : LineMask :=
  s.startup.config.sigin0.activeLines s.pins.sigin0 ||| s.startup.config.sigin1.activeLines s.pins.sigin1
    ||| (s.lines.signals &&& 0xFC#8)
    ||| flagBit (s.zone.overdueFlag || s.lines.hostTrip) 0
    ||| flagBit (s.zone.queue.any FeatureRecord.untakenHead) 1

/-- A pin map of the configuration record drives a level from the copies (R131). -/
def PinMap.level (map : PinMap) (copies : LineMask) : Bool :=
  (copies &&& map.lines != 0#8) != map.inverted

/-- The level of SIGOUT0 to SIGOUT3 (R131). -/
def State.sigout (s : State) (n : Fin 4) : Bool :=
  match n with
  | 0 => s.startup.config.sigout0.level s.copies
  | 1 => s.startup.config.sigout1.level s.copies
  | 2 => s.startup.config.sigout2.level s.copies
  | 3 => s.startup.config.sigout3.level s.copies

/-- The ATTN output: high while the latch and the enable are both set (R162). -/
def State.attn (s : State) : Bool := s.port.attnLatch && s.port.attnEnable

/-! ### Condition code -/

/-- A tag that is present and not in the ready list (R18). -/
def Port.tagNotReady (p : Port) (tag : Option SetTag) : Bool :=
  match tag with
  | none => false
  | some t => !p.ready.contains t

/-- SET_NOT_READY: the front bar at the entry station, elsewhere the front expectation, is a HEAD or a JOIN whose tag is
present and not ready (R18, R110). -/
def State.setNotReady (s : State) : Bool :=
  if s.startup.straps.first then
    match s.entry.bars with
    | [] => false
    | b :: _ => s.port.tagNotReady b.tag
  else
    match s.handoff.expectations with
    | [] => false
    | e :: _ => e.kind != .tail && s.port.tagNotReady e.tag

/-- The condition code: the highest code whose condition holds (R18). -/
def State.conditionCode (s : State) : Nat :=
  if s.lines.line.l0.contribution then 7
  else if s.zone.queue.any (fun r => r.state == .overdue) then 6
  else if s.startup.station = .parked then 5
  else if s.startup.station = .placed then 4
  else if s.setNotReady then 3
  else if s.sensing.inhibit.isSome then 2
  else if Config.actionsNearFull ≤ s.port.actions.length then 1
  else 0

end Machine

end Sys2Proof
end

