-- ==== Sys2Proof/Machine/Ops.lean ====
section
/-!
DEFINITION. The named operations that every command shares: the passing of time, posting an action, answering a command,
handing a frame to the transmit queue, the train-line slots and contributions, and the STROBE pulse.
-/

namespace Sys2Proof.Machine

/-! ### Time -/

/-- `dt` µs pass (R19; log entry 1). -/
def State.elapse (s : State) (dt : Nat) : State := { s with now := s.now + dt }

/-- The time base stands at least at the moment `t`: a timer that runs to `t` expires then (log entry 2). -/
def State.reach (s : State) (t : Nat) : State := { s with now := max s.now t }

/-! ### Lists -/

/-- The first element with a property, with what stands before and behind it. -/
def splitFirst {α : Type} (p : α → Bool) : List α → Option (List α × α × List α)
  | [] => none
  | x :: xs =>
    if p x then some ([], x, xs)
    else
      match splitFirst p xs with
      | none => none
      | some (before, y, behind) => some (x :: before, y, behind)

/-- The list without its last element that has a property. -/
def dropLastWhere {α : Type} (p : α → Bool) : List α → List α
  | [] => []
  | x :: xs => if xs.any p then x :: dropLastWhere p xs else if p x then xs else x :: xs

/-- The list with its first element that has a property changed. -/
def modifyFirst {α : Type} (p : α → Bool) (f : α → α) : List α → List α
  | [] => []
  | x :: xs => if p x then f x :: xs else x :: modifyFirst p f xs

/-! ### Controller port -/

/-- Posting an action: appended as the youngest, or discarded and counted when the queue holds 16; the attention latch is
set in both cases (R160, R162). -/
def State.post (s : State) (a : Action) : State :=
  { s with
    port :=
      { s.port with
        actions := if s.port.actions.length < Config.actionCapacity then s.port.actions ++ [a] else s.port.actions
        overflow := if s.port.actions.length < Config.actionCapacity then s.port.overflow else satInc8 s.port.overflow
        attnLatch := true } }

/-- Posting several actions in their order (R160). -/
def State.postAll (s : State) (as : List Action) : State := as.foldl State.post s

/-- A response block: length, code of the command answered, response code, data, check byte (section 9.6.2). -/
def responseBlock (code : Byte) (answer : Answer) (data : List Byte) : List Byte :=
  sealBlock (code :: answer.code :: data)

/-- The answer to a command becomes the held response (R156). -/
def State.answerData (s : State) (code : Byte) (answer : Answer) (data : List Byte) : State :=
  { s with port := { s.port with held := responseBlock code answer data } }

/-- The answer to a command that returns no data (R157). -/
def State.answer (s : State) (code : Byte) (answer : Answer) : State :=
  s.answerData code answer []

/-- A command whose length suits its parameters, carried out when the station allows it and answered WRONG_STATE
otherwise (R157). -/
def State.whenAllowed (s : State) (code : Byte) (allowed : Bool) (body : State → State) : State :=
  if allowed then body s else s.answer code .wrongState

/-- The ready flag of a BITE or SWITCH, from the ready list as it stands (R59). -/
def State.readyFlag (s : State) (tag : Option SetTag) : ReadyFlag :=
  match tag with
  | none => .na
  | some t => if s.port.ready.contains t then .yes else .no

/-- The tag of a BITE or SWITCH is taken out of the ready list when it is there (R59). -/
def State.consumeReady (s : State) (tag : Option SetTag) : State :=
  match tag with
  | none => s
  | some t => { s with port := { s.port with ready := s.port.ready.filter (fun u => u != t) } }

/-- Posting a BITE or a SWITCH: its ready flag is formed, its tag consumed, and it is posted (R59). -/
def State.postReady (s : State) (tag : Option SetTag) (a : Action) : State :=
  (s.consumeReady tag).post { a with tag := tagCode tag, ready := s.readyFlag tag }

/-! ### Transmit queue -/

/-- A routine frame of a place that is not in flight (R143). -/
def QueuedFrame.displaceable (f : QueuedFrame) : Bool := f.body.routine && !f.flying

/-- Handing a frame to the transmit queue (R143): a PACE takes the place of a PACE that has one; otherwise a free place is
taken; otherwise a routine frame is lost, or an urgent one displaces the youngest routine frame not in flight, or is lost
with FAULT TX_OVERFLOW. -/
def State.enqueue (s : State) (body : FrameBody) (age : Option AgeCount) : State :=
  let f : QueuedFrame := { body := body, age := age, flying := false }
  if body.isPace = true ∧ s.mill.queue.any (fun g => g.body.isPace) = true then
    { s with mill := { s.mill with queue := s.mill.queue.map (fun g => if g.body.isPace then f else g) } }
  else if s.mill.queue.length < Config.placeCapacity then
    { s with mill := { s.mill with queue := s.mill.queue ++ [f] } }
  else if body.routine then
    { s with mill := { s.mill with txOverflows := satInc16 s.mill.txOverflows } }
  else if s.mill.queue.any QueuedFrame.displaceable then
    { s with
      mill :=
        { s.mill with
          queue := dropLastWhere QueuedFrame.displaceable s.mill.queue ++ [f]
          txOverflows := satInc16 s.mill.txOverflows } }
  else
    State.post { s with mill := { s.mill with txOverflows := satInc16 s.mill.txOverflows } }
      (faultAction .txOverflow body.serial (BitVec.ofNat 8 body.kindCode) body.featureCode)

/-- The station's own CLAIM (R148, R150). -/
def State.claimBody (s : State) : FrameBody :=
  .claim s.startup.position s.startup.straps.first s.startup.straps.last

/-! ### Train-line slots -/

/-- Merging lines into a slot, which takes its filling time when it was empty (R120, R142). -/
def Slot.merge (now : Nat) (m : LineMask) (slot : Slot) : Slot :=
  if m = 0#8 then slot
  else if slot.mask = 0#8 then { mask := m, filledAt := now }
  else { mask := slot.mask ||| m, filledAt := slot.filledAt }

/-- Removing lines from a slot, where they stand in it; a slot whose mask becomes empty is empty (R120). -/
def Slot.remove (m : LineMask) (slot : Slot) : Slot :=
  if slot.mask &&& m = 0#8 then slot
  else if slot.mask &&& ~~~m = 0#8 then Slot.empty
  else { mask := slot.mask &&& ~~~m, filledAt := slot.filledAt }

/-- Returning the lines of an unsent frame: an empty slot takes back the frame's filling time, a slot filled again keeps
the earlier one (R120, R142). -/
def Slot.giveBack (filledAt : Nat) (m : LineMask) (slot : Slot) : Slot :=
  if m = 0#8 then slot
  else if slot.mask = 0#8 then { mask := m, filledAt := filledAt }
  else { mask := slot.mask ||| m, filledAt := min slot.filledAt filledAt }

/-- The slot of a kind. -/
def Slots.get (slots : Slots) : LineKind → Slot
  | .raise => slots.raise
  | .veto => slots.veto
  | .ask => slots.ask
  | .drop => slots.drop

/-- The slots with the slot of one kind changed. -/
def Slots.modify (slots : Slots) (kind : LineKind) (f : Slot → Slot) : Slots :=
  match kind with
  | .raise => { slots with raise := f slots.raise }
  | .veto => { slots with veto := f slots.veto }
  | .ask => { slots with ask := f slots.ask }
  | .drop => { slots with drop := f slots.drop }

/-- The state with one slot changed. -/
def State.modifySlot (s : State) (kind : LineKind) (f : Slot → Slot) : State :=
  { s with mill := { s.mill with slots := s.mill.slots.modify kind f } }

/-- The station merges a frame of one kind for a set of lines (R120). -/
def State.merge (s : State) (kind : LineKind) (m : LineMask) : State :=
  s.modifySlot kind (Slot.merge s.now m)

/-- A rule removes lines from the slot of one kind (R120). -/
def State.unmerge (s : State) (kind : LineKind) (m : LineMask) : State :=
  s.modifySlot kind (Slot.remove m)

/-! ### Train lines -/

/-- The lines of a mask changed by `f`. -/
def State.mapLines (s : State) (m : LineMask) (f : TrainLine → TrainLine) : State :=
  { s with lines := { s.lines with line := s.lines.line.mapMask m f } }

/-- A line's copy set to a level. -/
def TrainLine.withCopy (level : Bool) (l : TrainLine) : TrainLine := { l with copy := level }

/-- A line's contribution set or cleared. -/
def TrainLine.withContribution (c : Bool) (l : TrainLine) : TrainLine := { l with contribution := c }

/-- A line's foreign-ask-heard set or cleared. -/
def TrainLine.withForeignAsk (f : Bool) (l : TrainLine) : TrainLine := { l with foreignAsk := f }

/-- A line's own ask in a phase without a running window. -/
def TrainLine.withAsk (phase : OwnAsk) (l : TrainLine) : TrainLine := { l with ask := phase, windowEnd := none }

/-- The copies of a set of lines go high, with TRIP_ON when that of TL0 changes (R125, R123, R129). `position` is that of
the station whose frame changed them. -/
def State.copiesHigh (s : State) (m : LineMask) (position : Nat) : State :=
  let t := s.mapLines m (TrainLine.withCopy true)
  if m.getLsbD 0 = true ∧ s.lines.line.l0.copy = false then
    t.post { kind := .tripOn, value := saturate16 position }
  else t

/-- The copies of a set of lines go low, with TRIP_OFF when that of TL0 changes (R127, R123, R129). -/
def State.copiesLow (s : State) (m : LineMask) (position : Nat) : State :=
  let t := s.mapLines m (TrainLine.withCopy false)
  if m.getLsbD 0 = true ∧ s.lines.line.l0.copy = true then
    t.post { kind := .tripOff, value := saturate16 position }
  else t

/-- The own asks of a set of lines end in whatever phase they stand: in ASKING the line leaves the ASK slot, in DROPPING
the DROP slot, in WINDOW the window stops (R121). -/
def State.endAsks (s : State) (m : LineMask) : State :=
  ((s.unmerge .ask (m &&& s.askPhase .asking)).unmerge .drop (m &&& s.askPhase .dropping)).mapLines m
    (TrainLine.withAsk .none)

/-- An ASK is merged for a set of lines and their own ask becomes ASKING (R122, R123). -/
def State.beginAsks (s : State) (m : LineMask) : State :=
  (s.merge .ask m).mapLines m (TrainLine.withAsk .asking)

/-- The own contributions of a set of lines have risen in PLACED, TRACKING or PARKED (R121). -/
def State.contributionsRise (s : State) (m : LineMask) : State :=
  let high := m &&& s.copies
  ((s.merge .raise (m &&& ~~~s.copies)).endAsks high).merge .veto (high &&& s.foreignAsks)

/-- The own contributions of a set of lines have fallen in PLACED, TRACKING or PARKED (R122). -/
def State.contributionsFall (s : State) (m : LineMask) : State :=
  ((s.unmerge .raise m).unmerge .veto m).beginAsks (m &&& s.copies &&& s.askPhase .none)

/-- The contributions of the lines of `concerned` are formed afresh from their sources (R10, R11, R118, R119). In PLACED,
TRACKING and PARKED the exchange follows; in STOPPED they are frozen (R117). DESIGN CHOICE (log entry 27): where one event makes
some lines rise and others fall, all rises are handled before all falls; the spec gives no order. -/
def State.formContributions (s : State) (concerned : LineMask) : State :=
  let rise := concerned &&& s.sources &&& ~~~s.contributions
  let fall := concerned &&& ~~~s.sources &&& s.contributions
  let t := (s.mapLines rise (TrainLine.withContribution true)).mapLines fall (TrainLine.withContribution false)
  if s.startup.station = .stopped then s
  else if s.startup.station.operating then (t.contributionsRise rise).contributionsFall fall
  else t

/-- TL0 (TRIP) as a line set. -/
def tripLine : LineMask := 1#8

/-- TL1 (THREAD) as a line set. -/
def threadLine : LineMask := 2#8

/-- The overdue/zone-full flag is set and the TRIP contribution formed afresh (R10). -/
def State.setOverdueFlag (s : State) : State :=
  State.formContributions { s with zone := { s.zone with overdueFlag := true } } tripLine

/-! ### STROBE -/

/-- A strobe pulse starts, or starts its width again (R132). -/
def State.startStrobe (s : State) : State :=
  { s with strobe := some (s.now + s.startup.config.strobeWidth) }

/-! ### Entering STOPPED -/

/-- A neighbour record with its silence timer stopped (R14). -/
def Neighbour.stopTimer (n : Neighbour) : Neighbour := { n with silence := none }

/-- Every running veto window stops; the phases stay as they stood (R14, R117). -/
def TrainLine.stopWindow (l : TrainLine) : TrainLine := { l with windowEnd := none }

/-- Entering STOPPED, after the FAULT action has been posted (R14, R21, R43, R48). -/
def State.enterStopped (s : State) : State :=
  { s with
    startup := { s.startup with station := .stopped, claimRepeat := none }
    travel := { s.travel with stallRunning := false }
    sensing := { s.sensing with load := .dormant, exit := .dormant, inhibit := none }
    handoff :=
      { s.handoff with paceTimer := none, up := s.handoff.up.stopTimer, down := s.handoff.down.stopTimer }
    lines := { s.lines with line := s.lines.line.mapMask 255#8 TrainLine.stopWindow }
    mill :=
      { s.mill with
        queue := []
        slots := { raise := Slot.empty, veto := Slot.empty, ask := Slot.empty, drop := Slot.empty }
        flight := none } }

end Sys2Proof.Machine
end

