-- ==== Sys2Proof/Machine/ZoneTracker.lean ====
section
/-!
DEFINITION. The zone tracker: the entry procedure (R4 to R7), removals and their HANDED actions (R9, R76), offering (R52),
and the threshold comparisons of a counted pulse (R8, R30, R83, R87, R90, R91, R114).
-/

namespace Sys2Proof.Machine

/-- The state with another zone queue. -/
def State.withZone (s : State) (queue : List FeatureRecord) : State :=
  { s with zone := { s.zone with queue := queue } }

/-! ### The entry procedure -/

/-- The youngest record of a zone queue (R3). -/
def youngest (queue : List FeatureRecord) : Option FeatureRecord := queue.getLast?

/-- A record of the queue has the new record's kind and nonzero serial (R4). -/
def duplicates (queue : List FeatureRecord) (r : FeatureRecord) : Bool :=
  r.serial != 0#16 && queue.any (fun q => q.kind == r.kind && q.serial == r.serial)

/-- A kind may not follow the youngest record's kind: HEAD after HEAD or JOIN, TAIL after TAIL (R6). -/
def sequenceFault (predecessor kind : FeatureKind) : Bool :=
  match kind, predecessor with
  | .head, .head => true
  | .head, .join => true
  | .tail, .tail => true
  | .head, .tail => false
  | .tail, .head => false
  | .tail, .join => false
  | .join, .head => false
  | .join, .tail => false
  | .join, .join => false

/-- First step of entry: a duplicate enters with serial 0 (R4). -/
def demote (queue : List FeatureRecord) (r : FeatureRecord) : FeatureRecord :=
  if duplicates queue r then { r with serial := 0#16 } else r

/-- Second step of entry: a record that would stand ahead of the youngest takes the youngest's entry values (R5). -/
def clampEntry (z : TravelWord) (queue : List FeatureRecord) (r : FeatureRecord) : FeatureRecord :=
  match youngest queue with
  | none => r
  | some y => if y.position z < r.position z then { r with entryW := y.entryW, entryZ := y.entryZ } else r

/-- The record as it enters the queue: after R4 and R5. -/
def enteredRecord (z : TravelWord) (queue : List FeatureRecord) (r : FeatureRecord) : FeatureRecord :=
  clampEntry z queue (demote queue r)

/-- The FAULT SEQUENCE actions of the first and third steps, the duplicate fault first (R4, R6). -/
def sequenceActions (queue : List FeatureRecord) (r : FeatureRecord) : List Action :=
  (if duplicates queue r then [faultAction .sequence r.serial r.kind.code] else [])
    ++ match youngest queue with
      | none => []
      | some y =>
        if sequenceFault y.kind r.kind then [faultAction .sequence (demote queue r).serial r.kind.code] else []

/-- Fourth step of entry: a full queue loses its front record, with FAULT ZONE_FULL and the overdue/zone-full flag (R7). -/
def State.makeRoom (s : State) : State :=
  if s.zone.queue.length < Config.zoneCapacity then s
  else
    match s.zone.queue with
    | [] => s
    | front :: rest =>
      State.setOverdueFlag ((s.post (faultAction .zoneFull front.serial front.kind.code)).withZone rest)

/-- The entry procedure (R4 to R7), ending with the THREAD contribution brought up to date (R11). -/
def State.enterZone (s : State) (r : FeatureRecord) : State :=
  let entered := enteredRecord s.travel.z s.zone.queue r
  let t := (s.postAll (sequenceActions s.zone.queue r)).makeRoom
  (t.withZone (t.zone.queue ++ [entered])).formContributions threadLine

/-- The OFFER of an entered feature, at a station that is not the exit station (R52). `serial` is as the entering path
supplied it. -/
def State.offer (s : State) (serial : Serial) (kind : FeatureKind) (tag : Option SetTag) : State :=
  if s.startup.straps.last then s else s.enqueue (.offer serial kind tag) none

/-! ### Removals -/

/-- The four classes of HANDED (R76). -/
inductive HandedClass where
  | direct
  | matched
  | implied
  | reported
  deriving DecidableEq, Repr

/-- The code of a HANDED class (section 9.6.3). -/
def HandedClass.code : HandedClass → BitVec 2
  | .direct => 0#2
  | .matched => 1#2
  | .implied => 2#2
  | .reported => 3#2

/-- The HANDED action of a removed record (R76). -/
def handedAction (z : TravelWord) (cls : HandedClass) (early : Bool) (r : FeatureRecord) : Action :=
  { kind := .handed, serial := r.serial, feature := r.kind.code, tag := tagCode r.tag, early := early, cls := cls.code,
    value := saturate16 (toMm (r.position z)) }

/-- A take of a TRAVELLING record is early (R9). -/
def FeatureRecord.early (r : FeatureRecord) : Bool := r.state == .travelling

/-- The early-take count rises when the record named, matched or reported was TRAVELLING (R9). -/
def State.countEarly (s : State) (r : FeatureRecord) : State :=
  if r.early then { s with zone := { s.zone with earlyTakes := satInc16 s.zone.earlyTakes } } else s

/-- A removal: the records ahead leave with their HANDED actions, front first; the named record leaves with an action of
its own; the queue holds what stood behind, and THREAD is brought up to date (R9, R11). -/
def State.remove (s : State) (ahead : List FeatureRecord) (aheadClass : HandedClass) (own : Action)
    (behind : List FeatureRecord) : State :=
  (((s.postAll (ahead.map (handedAction s.travel.z aheadClass false))).post own).withZone behind).formContributions
    threadLine

/-! ### The threshold comparisons of a counted pulse -/

/-- The cause of an OVERDUE, from the downstream neighbour record (R91). -/
def State.overdueCause (s : State) : BitVec 16 :=
  if s.keepsDown = true ∧ s.handoff.down.liveness ≠ .present then 1#16
  else if s.keepsDown = true ∧ (s.handoff.down.code = some 5#3 ∨ s.handoff.down.code = some 4#3) then 2#16
  else 0#16

/-- The OVERDUE action of a record (R90). -/
def State.overdueAction (s : State) (r : FeatureRecord) : Action :=
  { kind := .overdue, serial := r.serial, feature := r.kind.code, tag := tagCode r.tag, value := s.overdueCause }

/-- What a HEAD or TAIL becomes at a position: DUE at L, OVERDUE and not learnable at the late threshold, through every
state whose threshold it has reached (R8, R90). -/
def compareFeature (th : Thresholds) (position : Nat) (r : FeatureRecord) : FeatureRecord :=
  let due := if r.state = .travelling ∧ th.endOfZone ≤ position then { r with state := .due } else r
  if due.state = .due ∧ th.late ≤ position then { due with state := .overdue, learnable := false } else due

/-- The overrun of a join past the end of the zone, in mm (R87, R114). -/
def overrunMm (th : Thresholds) (position : Nat) : Nat := min 65535 (toMm (position - th.endOfZone))

/-- The age count of a frame whose event is this moment (R32). -/
def State.ageFromNow (s : State) : AgeCount := { base := 0, since := s.now }

/-- A TRAVELLING JOIN at L: it is PASSED and a PASS is queued (R83). -/
def State.passJoin (s : State) (r : FeatureRecord) : State :=
  s.enqueue (.pass r.serial r.tag (r.origin == .lapsed)) (some s.ageFromNow)

/-- The LAPSED action of a join (R87). -/
def lapsedAction (th : Thresholds) (position : Nat) (r : FeatureRecord) : Action :=
  { kind := .lapsed, serial := r.serial, feature := FeatureKind.join.code, tag := tagCode r.tag,
    value := saturate16 (overrunMm th position) }

/-- The CUT action of a join (R114). -/
def cutAction (th : Thresholds) (position : Nat) (r : FeatureRecord) : Action :=
  { kind := .cut, serial := r.serial, feature := FeatureKind.join.code, tag := tagCode r.tag,
    upEstimated := r.origin == .lapsed, value := saturate16 (overrunMm th position) }

/-- A PASSED JOIN at the late threshold: it is removed with the records ahead of it, LAPSED is posted and a LAPSE queued
(R87). -/
def State.lapseJoin (s : State) (ahead : List FeatureRecord) (r : FeatureRecord) (behind : List FeatureRecord) : State :=
  let position := r.position s.travel.z
  (s.remove ahead .implied (lapsedAction s.zone.thresholds position r) behind).enqueue
    (.lapse r.serial r.tag (r.origin == .lapsed) (overrunMm s.zone.thresholds position)) (some s.ageFromNow)

/-- A TRAVELLING JOIN at L at the exit station: it is removed with the records ahead of it, CUT is posted and STROBE pulses
(R114). -/
def State.cutJoin (s : State) (ahead : List FeatureRecord) (r : FeatureRecord) (behind : List FeatureRecord) : State :=
  (s.remove ahead .implied (cutAction s.zone.thresholds (r.position s.travel.z) r) behind).startStrobe

/-- A HEAD or TAIL is compared: the queue takes its new state, and a record that has become OVERDUE posts OVERDUE and, for
a HEAD, sets the overdue/zone-full flag (R8, R90). -/
def State.compareHeadOrTail (s : State) (ahead : List FeatureRecord) (r : FeatureRecord) (behind : List FeatureRecord) :
    State :=
  let r' := compareFeature s.zone.thresholds (r.position s.travel.z) r
  let t := s.withZone (ahead ++ r' :: behind)
  if r'.state = .overdue ∧ r.state ≠ .overdue then
    if r.kind = .head then (t.post (s.overdueAction r)).setOverdueFlag else t.post (s.overdueAction r)
  else t

/-- The comparisons of a counted pulse, front record first (R8): `ahead` are the records already compared that still stand
in the queue, and the list is what has not been compared yet. -/
def State.compareZone (s : State) (ahead : List FeatureRecord) : List FeatureRecord → State
  | [] => s
  | r :: behind =>
    let position := r.position s.travel.z
    let th := s.zone.thresholds
    if r.kind = .join then
      if s.startup.straps.last then
        if r.state = .travelling ∧ th.endOfZone ≤ position then (s.cutJoin ahead r behind).compareZone [] behind
        else s.compareZone (ahead ++ [r]) behind
      else
        let passes := r.state = .travelling ∧ th.endOfZone ≤ position
        let t := if passes then s.passJoin r else s
        if (passes ∨ r.state = .passed) ∧ th.late ≤ position then (t.lapseJoin ahead r behind).compareZone [] behind
        else
          let r' : FeatureRecord := if passes then { r with state := .passed } else r
          (t.withZone (ahead ++ r' :: behind)).compareZone (ahead ++ [r']) behind
    else
      (s.compareHeadOrTail ahead r behind).compareZone
        (ahead ++ [compareFeature th position r]) behind

/-- A record beyond the position ceiling is held at it (R30). -/
def holdAtCeiling (z : TravelWord) (r : FeatureRecord) : FeatureRecord :=
  if Config.positionCeiling < r.position z then
    { r with entryZ := z - BitVec.ofNat 48 Config.positionCeiling }
  else r

/-- The zone tracker's part of a counted pulse: the comparisons of R8 and then the ceiling of R30. -/
def State.zonePulse (s : State) : State :=
  let t := s.compareZone [] s.zone.queue
  t.withZone (t.zone.queue.map (holdAtCeiling t.travel.z))

end Sys2Proof.Machine
end

