-- ==== Sys2Proof/Machine/Travel.lean ====
section
/-!
DEFINITION. The travel counter (chapter 2): counting a pulse, the stall expiry, and back-projection from the
start-of-frame latch.
-/

namespace Sys2Proof.Machine

/-- N of R24: p × (65,536 + S) + r, formed exactly. -/
def pulseProduct (pitch code r : Nat) : Nat := pitch * (65536 + code) + r

/-- T_p of a counted pulse: 65,535 when the interval restart marker is set, otherwise the µs since the previous counted
pulse, at least 1 and saturated at 65,535 (R25). -/
def pulseInterval (t : TravelCounter) (now : Nat) : Nat :=
  if t.restart then Config.stalled else max 1 (min (now - t.lastPulse) Config.stalled)

/-- The travel counter after a counted pulse (R23, R24, R25). -/
def TravelCounter.pulse (t : TravelCounter) (pitch code now : Nat) : TravelCounter where
  w := t.w + BitVec.ofNat 48 pitch
  z := t.z + BitVec.ofNat 48 (pulseProduct pitch code t.r / 65536)
  r := pulseProduct pitch code t.r % 65536
  aLast := pulseProduct pitch code t.r / 65536
  tp := pulseInterval t now
  stallRunning := true
  lastPulse := now
  restart := false

/-- The travel counter as CLOSE leaves it (R20). -/
def TravelCounter.closed (t : TravelCounter) : TravelCounter :=
  { t with w := 0#48, z := 0#48, r := 0, aLast := 0, tp := Config.stalled, stallRunning := false, restart := true }

/-- A counted pulse: the travel counter, then the zone tracker (R22). -/
def State.countPulse (s : State) : State :=
  State.zonePulse { s with travel := s.travel.pulse s.startup.config.pitch s.slip.code s.now }

/-- ENCODER_PULSE: a rising edge on ENC counts in TRACKING and otherwise leaves the travel counter as it stands (R22). -/
def execEncoderPulse (dt : Nat) (s : State) : Host.Outcome State Fault Refusal :=
  let t := s.elapse dt
  .next (if t.startup.station = .tracking then t.countPulse else t)

/-- STALL_EXPIRY: the running stall timer reaches 65,535 µs, T_p becomes 65,535 and the timer stops (R26). -/
def execStallExpiry (s : State) : Host.Outcome State Fault Refusal :=
  if s.travel.stallRunning then
    let t := s.reach (s.travel.lastPulse + Config.stalled)
    .next { t with travel := { t.travel with tp := Config.stalled, stallRunning := false } }
  else .next s

/-! ### Back-projection -/

/-- The roll travel back, B_W: 0 when the latched T_p is stalled (R34, R35). -/
def rollBack (sof : SofLatch) (pitch age : Nat) : Nat :=
  if sof.tp = Config.stalled then 0 else age * pitch / sof.tp

/-- The strip travel back, B_Z: 0 when the latched T_p is stalled (R34, R35). -/
def stripBack (sof : SofLatch) (age : Nat) : Nat :=
  if sof.tp = Config.stalled then 0 else age * sof.aLast / sof.tp

/-- The event W: W_sof − B_W modulo 2^48 (R34). -/
def eventW (sof : SofLatch) (pitch age : Nat) : TravelWord := sof.w - BitVec.ofNat 48 (rollBack sof pitch age)

/-- The event Z: Z_sof − B_Z modulo 2^48 (R34). -/
def eventZ (sof : SofLatch) (age : Nat) : TravelWord := sof.z - BitVec.ofNat 48 (stripBack sof age)

/-- The lateness of an event: B_Z in mm, rounded down (R34). -/
def latenessMm (sof : SofLatch) (age : Nat) : Nat := toMm (stripBack sof age)

end Sys2Proof.Machine
end

