-- ==== Sys2Proof/Machine/Slip.lean ====
section
/-!
DEFINITION. The slip learner (chapter 6): measuring a crossing, the plausibility band, the filter, and the SLIP command.
-/

namespace Sys2Proof.Machine

/-- The ratio code Q = L × 1,024,000 × 65,536 ÷ R, to the nearest whole number, a half rounded upward (R98). -/
def ratioCode (zoneLength roll : Nat) : Nat :=
  (2 * (zoneLength * Config.tuPerMm * 65536) + roll) / (2 * roll)

/-- The measured slip S_meas = Q − 65,536 (R98). -/
def measuredSlip (zoneLength roll : Nat) : Int := (ratioCode zoneLength roll : Int) - 65536

/-- A measured slip within −8,192 to 24,576 is plausible (R99). -/
def plausible (m : Int) : Bool := decide (-8192 ≤ m ∧ m ≤ 24576)

/-- A plausible measured slip clamped to 0 to 16,384 (R99). -/
def clampSlip (m : Int) : Int := max 0 (min 16384 m)

/-- The step Δ × g ÷ 16 to the nearest whole number, a half rounded away from zero (R100). -/
def filterStep (delta : Int) (gain : Nat) : Int :=
  delta.sign * (((2 * (delta.natAbs * gain) + 16) / 32 : Nat) : Int)

/-- The step that a plausible measured slip gives against the slip code that stands (R100). -/
def sampleStep (measured : Int) (code gain : Nat) : Int := filterStep (clampSlip measured - code) gain

/-- The learner after a sample of roll travel `roll` across a zone of `zoneLength` mm (R97 to R101). -/
def SlipLearner.sample (l : SlipLearner) (zoneLength gain : Nat) (source : SampleSource) (serial : Serial) (roll : Nat) :
    SlipLearner :=
  let rollMm := min 65535 (toMm roll)
  if roll = 0 then
    { l with
      rejected := satInc16 l.rejected
      last := some
        { source := source, serial := serial, rollTravel := rollMm, measured := none, outcome := .rejectedZero,
          step := 0, codeAfter := l.code } }
  else if plausible (measuredSlip zoneLength roll) then
    let step := sampleStep (measuredSlip zoneLength roll) l.code gain
    let code := ((l.code : Int) + step).toNat
    { code := code
      samples := satInc16 l.samples
      rejected := l.rejected
      last := some
        { source := source, serial := serial, rollTravel := rollMm, measured := some (measuredSlip zoneLength roll),
          outcome := if clampSlip (measuredSlip zoneLength roll) = measuredSlip zoneLength roll then .accepted else .clamped,
          step := step, codeAfter := code } }
  else
    { l with
      rejected := satInc16 l.rejected
      last := some
        { source := source, serial := serial, rollTravel := rollMm, measured := some (measuredSlip zoneLength roll),
          outcome := .rejectedBand, step := 0, codeAfter := l.code } }

/-- A sample is made from an arrival W and a record's entry W (R97). -/
def State.makeSample (s : State) (source : SampleSource) (r : FeatureRecord) (arrivalW : TravelWord) : State :=
  { s with
    slip := s.slip.sample s.startup.config.zoneLength s.startup.config.gain source r.serial (arrivalW - r.entryW).toNat }

/-- The offer of a sample by a TAKE: made for a learnable HEAD when the age is not stale and the latched T_p is not
stalled (R75, R95). -/
def State.offerTakeSample (s : State) (r : FeatureRecord) (age : Nat) : State :=
  if r.kind = .head ∧ r.learnable = true ∧ age < Config.staleAge ∧ s.mill.sof.tp ≠ Config.stalled then
    s.makeSample .take r (eventW s.mill.sof s.startup.config.pitch age)
  else s

/-- The offer of a sample by an exit-rise: always made for a learnable HEAD (R96). -/
def State.offerExitSample (s : State) (r : FeatureRecord) (edgeW : TravelWord) : State :=
  if r.kind = .head ∧ r.learnable = true then s.makeSample .exit r edgeW else s

/-- SLIP: the slip code is written, clamped to 16,384, in TRACKING and PARKED (R102). -/
def State.setSlip (s : State) (value : Nat) : State :=
  State.answer { s with slip := { s.slip with code := min value Config.slipMax } } 14#8
    (if value ≤ Config.slipMax then .done else .clamped)

/-- SLIP of a block (R102, R157, R158). -/
def execSlip (dt : Nat) (params : List Byte) (s : State) : Host.Outcome State Fault Refusal :=
  let t := s.elapse dt
  match params with
  | [hi, lo] =>
    .next (t.whenAllowed 14#8 (t.startup.station == .tracking || t.startup.station == .parked)
      (fun u => u.setSlip (word16 hi lo).toNat))
  | _ => .next (t.answer 14#8 .badValue)

end Sys2Proof.Machine
end

