-- ==== Sys2Proof/Machine/HandOff.lean ====
section
/-!
DEFINITION. The hand-off unit's own procedures (chapters 4 and 5): the detected take, the expectation list, takes from
downstream, joins passed and lapsed, binds, pace reports and neighbour records.
-/

namespace Sys2Proof.Machine

/-- The state with another expectation list. -/
def State.withExpectations (s : State) (l : List Expectation) : State :=
  { s with handoff := { s.handoff with expectations := l } }

/-- The state with another last-take record. -/
def State.withLastTake (s : State) (t : Option TakeRef) : State :=
  { s with handoff := { s.handoff with lastTake := t } }

/-- The count of discarded hand-off frames rises (R93). -/
def State.countDiscarded (s : State) : State :=
  { s with handoff := { s.handoff with discarded := satInc16 s.handoff.discarded } }

/-- The unmatched-take count rises (R73). -/
def State.countUnmatched (s : State) : State :=
  { s with handoff := { s.handoff with unmatched := satInc16 s.handoff.unmatched } }

/-! ### The detected take -/

/-- An event that stand sensing delivers: the latched travel, the event time and the inhibited flag (R44). -/
structure SenseEvent where
  w : TravelWord
  z : TravelWord
  time : Nat
  inhibited : Bool
  deriving DecidableEq, Repr

/-- A record that enters on the own stand sensor: origin BITE, TRAVELLING, learnable for a HEAD (R1, R60, R61). -/
def biteRecord (kind : FeatureKind) (serial : Serial) (tag : Option SetTag) (anon : Byte) (ev : SenseEvent) :
    FeatureRecord where
  serial := serial
  kind := kind
  tag := tag
  anon := anon
  entryW := ev.w
  entryZ := ev.z
  origin := .bite
  state := .travelling
  learnable := kind == .head

/-- The SKIPPED action of an expectation (R67). -/
def skippedAction (e : Expectation) : Action :=
  { kind := .skipped, serial := e.serial, feature := e.kind.code, tag := tagCode e.tag }

/-- The next anonymous tag: the counter plus one, or 1 when it stands at 255 (R62). -/
def nextAnon (c : Byte) : Byte := if c = 255#8 then 1#8 else c + 1#8

/-- The expectation of a kind that a bite or release consumes, with those it skips and those that stay (R60, R61). -/
def State.expected (s : State) (kind : FeatureKind) : Option (List Expectation × Expectation × List Expectation) :=
  splitFirst (fun e => e.kind == kind) s.handoff.expectations

/-- The serial of a detected take: the consumed expectation's, or 0 (R64). -/
def State.takeSerial (s : State) (kind : FeatureKind) : Serial :=
  match s.expected kind with
  | some (_, e, _) => e.serial
  | none => 0#16

/-- The set tag of a detected take: the consumed expectation's, or absent; always absent for a TAIL (R60, R61, R62). -/
def State.takeTag (s : State) (kind : FeatureKind) : Option SetTag :=
  match s.expected kind with
  | some (_, e, _) => if kind = .tail then none else e.tag
  | none => none

/-- The anonymous tag of a detected take: issued when no expectation of the kind was found, otherwise 0 (R62). -/
def State.takeAnon (s : State) (kind : FeatureKind) : Byte :=
  match s.expected kind with
  | some _ => 0#8
  | none => nextAnon s.handoff.anonCounter

/-- The skips and the consumption of a detected take, or the issue of an anonymous tag (R60, R61, R62, R67). -/
def State.consumeExpected (s : State) (kind : FeatureKind) : State :=
  match s.expected kind with
  | some (ahead, _, behind) => (s.withExpectations behind).postAll (ahead.map skippedAction)
  | none => { s with handoff := { s.handoff with anonCounter := nextAnon s.handoff.anonCounter } }

/-- The BITE or TAILOUT of a feature; its tag and ready flag are put in when it is posted (R65). -/
def takeAction (kind : FeatureKind) (serial : Serial) (anon : Byte) (inhibited : Bool) : Action :=
  { kind := if kind = .head then .bite else .tailout, serial := serial, feature := kind.code,
    inhibited := kind == .head && inhibited, value := anon.setWidth 16 }

/-- A qualified bite (`kind` HEAD) or release (`kind` TAIL) at a station that is not the entry station (R60 to R66), with
its effects in the order of R63. -/
def State.detectedTake (s : State) (kind : FeatureKind) (ev : SenseEvent) : State :=
  let serial := s.takeSerial kind
  let tag := s.takeTag kind
  let anon := s.takeAnon kind
  (((((s.consumeExpected kind).enterZone (biteRecord kind serial tag anon ev)).offer serial kind tag).enqueue
      (.take serial kind anon) (some { base := 0, since := ev.time })).postReady tag
      (takeAction kind serial anon ev.inhibited)).withLastTake (some { serial := serial, kind := kind })

/-! ### Offers -/

/-- Appending an offered feature to the expectation list: a duplicate is ignored, a full list posts FAULT EXPECT_FULL
(R55), and an appended HEAD or JOIN with a tag posts PREPARE (R56). -/
def State.appendExpectation (s : State) (e : Expectation) : State :=
  if e.serial ≠ 0#16 ∧ s.handoff.expectations.any (fun x => x.kind == e.kind && x.serial == e.serial) = true then s
  else if s.handoff.expectations.length < Config.expectationCapacity then
    let t := s.withExpectations (s.handoff.expectations ++ [e])
    if e.kind ≠ .tail ∧ e.tag.isSome = true then
      t.post { kind := .prepare, serial := e.serial, feature := e.kind.code, tag := tagCode e.tag }
    else t
  else s.post (faultAction .expectFull e.serial e.kind.code (tagCode e.tag))

/-- An OFFER from own−1 in TRACKING (R53). -/
def State.offerActs (s : State) (serial : Serial) (kind tag : Byte) : State :=
  match FeatureKind.ofCode kind with
  | none => s.countDiscarded
  | some k => s.appendExpectation { serial := serial, kind := k, tag := tagForKind k tag }

/-- What a station does with an OFFER, PASS, LAPSE or BIND: in TRACKING it acts on one from own−1, in PLACED and PARKED it
discards and counts it, and it ignores one from another position (R53, R70, R84, R88, R93). -/
def State.fromAbove (s : State) (arb : Arbitration) (acts : State → State) : State :=
  if s.fromUpstream arb then
    match s.startup.station with
    | .tracking => acts s
    | .placed => s.countDiscarded
    | .parked => s.countDiscarded
    | .unset => s
    | .claiming => s
    | .stopped => s
  else s

/-! ### Takes from downstream -/

/-- The record that a usable TAKE finds: by kind and serial, or for serial 0 the front-most of the kind at or past the
early window (R73, R74). -/
def State.takeFinds (s : State) (serial : Serial) (kind : FeatureKind) :
    Option (List FeatureRecord × FeatureRecord × List FeatureRecord) :=
  if serial = 0#16 then
    splitFirst (fun r => r.kind == kind && decide (s.zone.thresholds.early ≤ r.position s.travel.z)) s.zone.queue
  else splitFirst (fun r => r.kind == kind && r.serial == serial) s.zone.queue

/-- A usable TAKE (R73, R74, R75): HANDED actions, then the BIND, then the slip sample. -/
def State.takeActs (s : State) (serial : Serial) (kind : FeatureKind) (anon : Byte) (age : Nat) : State :=
  match s.takeFinds serial kind with
  | none => s.countUnmatched
  | some (ahead, r, behind) =>
    let cls : HandedClass := if serial = 0#16 then .matched else .direct
    let t := (s.countEarly r).remove ahead .implied (handedAction s.travel.z cls r.early r) behind
    let u := if serial = 0#16 ∧ r.serial ≠ 0#16 then t.enqueue (.bind r.serial r.kind r.tag anon) none else t
    u.offerTakeSample r age

/-- A TAKE in PLACED, TRACKING or PARKED: acted on from own+1 at a station that is not the exit station, where a kind field
that names no kind makes it unusable (R72, R93). -/
def State.takeArrives (s : State) (arb : Arbitration) (serial : Serial) (kind anon : Byte) (age : Nat) : State :=
  if s.startup.straps.last then s
  else if s.fromDownstream arb then
    match FeatureKind.ofCode kind with
    | none => s.countDiscarded
    | some k => s.takeActs serial k anon age
  else s

/-! ### Joins passed and lapsed -/

/-- The consumption of a JOIN expectation of a serial, skipping those ahead of it; the list is unchanged when there is none
(R84). -/
def State.consumeJoin (s : State) (serial : Serial) : State :=
  match splitFirst (fun e => e.kind == .join && e.serial == serial) s.handoff.expectations with
  | none => s
  | some (ahead, _, behind) => (s.withExpectations behind).postAll (ahead.map skippedAction)

/-- A JOIN record entered from a PASS or a LAPSE, with the back-projected event values (R84, R88). -/
def State.joinRecord (s : State) (origin : Origin) (serial : Serial) (tag : Option SetTag) (age : Nat) : FeatureRecord where
  serial := serial
  kind := .join
  tag := tag
  anon := 0#8
  entryW := eventW s.mill.sof s.startup.config.pitch age
  entryZ := eventZ s.mill.sof age
  origin := origin
  state := .travelling
  learnable := false

/-- The SWITCH of a join; its tag and ready flag are put in when it is posted (R86). -/
def switchAction (serial : Serial) (estimated upEstimated : Bool) (lateness : Nat) : Action :=
  { kind := .switch, serial := serial, feature := FeatureKind.join.code, estimated := estimated,
    upEstimated := upEstimated, value := saturate16 lateness }

/-- A PASS acted on, or a LAPSE that is not ignored, with its effects in the order of R84. `overrun` is 0 for a PASS. -/
def State.joinArrives (s : State) (origin : Origin) (serial : Serial) (tag : Option SetTag) (upEstimated : Bool)
    (overrun age : Nat) : State :=
  let record := s.joinRecord origin serial tag age
  let lateness := overrun + latenessMm s.mill.sof age
  let answer : AgeCount := { base := age, since := s.mill.sof.time }
  ((((((s.consumeJoin serial).enterZone record).offer serial .join tag).postReady tag
      (switchAction serial (origin == .lapsed) upEstimated lateness)).startStrobe).enqueue
      (.take serial .join 0#8) (some answer)).withLastTake (some { serial := serial, kind := .join })

/-- The join of a LAPSE is already known: it stands in the zone queue, or it is the last take (R88). -/
def State.joinKnown (s : State) (serial : Serial) : Bool :=
  s.zone.queue.any (fun r => r.kind == .join && r.serial == serial)
    || s.handoff.lastTake == some { serial := serial, kind := .join }

/-- A LAPSE from own−1 in TRACKING (R88). -/
def State.lapseActs (s : State) (serial : Serial) (tag : Option SetTag) (upEstimated : Bool) (overrun age : Nat) : State :=
  if s.joinKnown serial then s else s.joinArrives .lapsed serial tag upEstimated overrun age

/-! ### Binds -/

/-- A BIND from own−1 in TRACKING (R70): the record that holds its anonymous tag takes its serial and set tag and BOUND is
posted, unless the BIND is unusable, the record is of another kind, or another record holds its kind and serial. -/
def State.bindActs (s : State) (serial : Serial) (kind tag anon : Byte) : State :=
  match FeatureKind.ofCode kind with
  | none => s
  | some k =>
    if serial = 0#16 ∨ anon = 0#8 then s
    else
      match splitFirst (fun r => r.anon == anon) s.zone.queue with
      | none => s
      | some (ahead, r, behind) =>
        if r.kind ≠ k ∨ (ahead ++ behind).any (fun q => q.kind == k && q.serial == serial) = true then s
        else
          let bound : FeatureRecord := { r with serial := serial, tag := tagForKind k tag, anon := 0#8 }
          (s.withZone (ahead ++ bound :: behind)).post
            { kind := .bound, serial := serial, feature := k.code, tag := tagCode bound.tag, value := anon.setWidth 16 }

/-! ### Neighbour records and pace reports -/

/-- The NEIGHBOUR action: the neighbour's position, and the flag PRESENT or SILENT (R80, section 9.6.3). -/
def neighbourAction (position : Nat) (present : Bool) : Action :=
  { kind := .neighbour, cls := if present then 1#2 else 0#2, value := saturate16 position }

/-- A neighbour record refreshed: PRESENT, with its silence timer restarted (R80). -/
def Neighbour.refresh (n : Neighbour) (deadline : Nat) : Neighbour :=
  { n with liveness := .present, silence := some deadline }

/-- A neighbour record whose silence timer has expired (R80). -/
def Neighbour.goSilent (n : Neighbour) : Neighbour := { n with liveness := .silent, silence := none }

/-- The upstream record refreshed by a valid frame from own−1, with NEIGHBOUR PRESENT after SILENT (R80). -/
def State.refreshUp (s : State) : State :=
  let t : State :=
    { s with handoff := { s.handoff with up := s.handoff.up.refresh (s.now + s.startup.config.silenceTime) } }
  if s.handoff.up.liveness = .silent then t.post (neighbourAction (s.startup.position - 1) true) else t

/-- The downstream record refreshed by a valid frame from own+1, with NEIGHBOUR PRESENT after SILENT (R80). -/
def State.refreshDown (s : State) : State :=
  let t : State :=
    { s with handoff := { s.handoff with down := s.handoff.down.refresh (s.now + s.startup.config.silenceTime) } }
  if s.handoff.down.liveness = .silent then t.post (neighbourAction (s.startup.position + 1) true) else t

/-- The refresh that every valid frame from a neighbour's position makes in PLACED, TRACKING and PARKED (R80, R141). -/
def State.refreshFrom (s : State) (arb : Arbitration) : State :=
  if s.startup.station.operating then
    if s.keepsUp && s.fromUpstream arb then s.refreshUp
    else if s.keepsDown && s.fromDownstream arb then s.refreshDown
    else s
  else s

/-- The counter gaps that a received counter adds: nothing after "none received" (R81). -/
def gapsAdded (last : Option (BitVec 2)) (received : BitVec 2) : Nat :=
  match last with
  | none => 0
  | some c => (received - c - 1#2).toNat

/-- A neighbour record updated by a usable PACE (R81). -/
def Neighbour.pace (n : Neighbour) (head : PaceHead) (lastTake : Option TakeRef) : Neighbour :=
  { n with
    gaps := BitVec.ofNat 8 (min 255 (n.gaps.toNat + gapsAdded n.counter head.counter))
    counter := some head.counter
    code := some head.code
    lastTake := lastTake }

/-- The HANDED REPORTED actions of the records ahead of a reported one (R82). -/
def State.reportActs (s : State) (lastTake : Option TakeRef) : State :=
  match lastTake with
  | none => s
  | some t =>
    if t.serial = 0#16 then s
    else
      match splitFirst (fun r => r.kind == t.kind && r.serial == t.serial) s.zone.queue with
      | none => s
      | some (ahead, r, behind) =>
        (s.countEarly r).remove ahead .reported (handedAction s.travel.z .reported r.early r) behind

/-- A PACE from a neighbour's position in PLACED, TRACKING or PARKED (R81, R82): the refresh, the record's other fields, and
for the downstream neighbour the recovery of a take by report. A PACE from any other position is ignored. -/
def State.paceArrives (s : State) (arb : Arbitration) (head : PaceHead) (report : Option (Option TakeRef)) : State :=
  let t := s.refreshFrom arb
  let usable := if head.position = arb.position then report else none
  if s.keepsUp && s.fromUpstream arb then
    match usable with
    | none => t.countDiscarded
    | some last => { t with handoff := { t.handoff with up := t.handoff.up.pace head last } }
  else if s.keepsDown && s.fromDownstream arb then
    match usable with
    | none => t.countDiscarded
    | some last =>
      State.reportActs { t with handoff := { t.handoff with down := t.handoff.down.pace head last } } last
  else t

/-- The PACE that the station builds now (R79). -/
def State.paceBody (s : State) : FrameBody :=
  .pace s.startup.position s.conditionCode s.handoff.paceCounter s.handoff.lastTake

/-- PACE_TIMER_EXPIRY: the running timer expires, a PACE is built and queued, the counter advances and the timer restarts
(R78, R79). -/
def execPaceTimerExpiry (s : State) : Host.Outcome State Fault Refusal :=
  match s.handoff.paceTimer with
  | none => .next s
  | some deadline =>
    let t := s.reach deadline
    let u := t.enqueue t.paceBody none
    .next
      { u with
        handoff :=
          { u.handoff with
            paceCounter := u.handoff.paceCounter + 1#2
            paceTimer := some (u.now + u.startup.config.pacePeriod * 1000) } }

/-- The claim repeat timer started with 10 ms if it is stopped, at a station that repeats its CLAIM (R151). -/
def State.restartClaimRepeat (s : State) : State :=
  if s.repeatsClaim = true ∧ s.startup.claimRepeat = none then
    { s with startup := { s.startup with claimRepeat := some (s.now + Config.claimRepeatTime) } }
  else s

/-- The silence timer of the upstream record expires (R80). -/
def State.upSilent (s : State) : State :=
  State.post { s with handoff := { s.handoff with up := s.handoff.up.goSilent } }
    (neighbourAction (s.startup.position - 1) false)

/-- The silence timer of the downstream record expires, and the claim repeat starts again (R80, R151). -/
def State.downSilent (s : State) : State :=
  (State.post { s with handoff := { s.handoff with down := s.handoff.down.goSilent } }
    (neighbourAction (s.startup.position + 1) false)).restartClaimRepeat

/-- SILENCE_TIMER_EXPIRY: a running silence timer expires (R80, R151). -/
def execSilenceTimerExpiry (side : Side) (s : State) : Host.Outcome State Fault Refusal :=
  match side with
  | .upstream =>
    match s.handoff.up.silence with
    | none => .next s
    | some deadline => .next (s.reach deadline).upSilent
  | .downstream =>
    match s.handoff.down.silence with
    | none => .next s
    | some deadline => .next (s.reach deadline).downSilent

end Sys2Proof.Machine
end

