-- ==== Sys2Proof/Machine/Ends.lean ====
section
/-!
DEFINITION. The entry unit and the exit unit (chapter 7): the entry list and its commands, entering the train, and the
exit gate.
-/

namespace Sys2Proof.Machine

/-- The state with another entry list. -/
def State.withBars (s : State) (bars : List Bar) : State := { s with entry := { s.entry with bars := bars } }

/-! ### Entering the train -/

/-- The serial of the front bar, or 0 (R107, R108). -/
def State.frontSerial (s : State) : Serial :=
  match s.entry.bars with
  | [] => 0#16
  | b :: _ => b.serial

/-- The set tag of the front bar, or absent (R107, R108). -/
def State.frontTag (s : State) : Option SetTag :=
  match s.entry.bars with
  | [] => none
  | b :: _ => b.tag

/-- The front bar does not enter in the way it was announced (R107, R108). -/
def State.frontMismatch (s : State) (joined : Bool) : Bool :=
  match s.entry.bars with
  | [] => false
  | b :: _ => b.joined != joined

/-- FAULT ENTRY_MISMATCH when it applies (R107, R108). -/
def State.postMismatch (s : State) (mismatch : Bool) (serial : Serial) (kind : FeatureKind) (tag : Option SetTag) : State :=
  if mismatch then s.post (faultAction .entryMismatch serial kind.code (tagCode tag)) else s

/-- A qualified bite at the entry station (R107). -/
def State.entryBite (s : State) (ev : SenseEvent) : State :=
  let serial := s.frontSerial
  let tag := s.frontTag
  (((((s.withBars s.entry.bars.tail).enterZone (biteRecord .head serial tag 0#8 ev)).postMismatch (s.frontMismatch false)
      serial .head tag).offer serial .head tag).postReady tag (takeAction .head serial 0#8 ev.inhibited))

/-- A JOIN that enters at the entry station's join strobe (R108). -/
def entryJoinRecord (serial : Serial) (tag : Option SetTag) (w z : TravelWord) : FeatureRecord where
  serial := serial
  kind := .join
  tag := tag
  anon := 0#8
  entryW := w
  entryZ := z
  origin := .entry
  state := .travelling
  learnable := false

/-- FAULT JOIN_UNANNOUNCED when the entry list is empty (R108). -/
def State.postUnannounced (s : State) (unannounced : Bool) : State :=
  if unannounced then s.post (faultAction .joinUnannounced 0#16 FeatureKind.join.code) else s

/-- A join strobe at the entry station, with the travel values of its edge (R108). -/
def State.entryJoin (s : State) : State :=
  let serial := s.frontSerial
  let tag := s.frontTag
  ((((((s.withBars s.entry.bars.tail).enterZone (entryJoinRecord serial tag s.travel.w s.travel.z)).postMismatch
      (s.frontMismatch true) serial .join tag).postUnannounced s.entry.bars.isEmpty).offer serial .join tag).postReady tag
      (switchAction serial false false 0)).startStrobe

/-- The serial of the youngest HEAD in the zone queue, or 0 (R109). -/
def State.youngestHeadSerial (s : State) : Serial :=
  match youngest (s.zone.queue.filter (fun r => r.kind == .head)) with
  | none => 0#16
  | some r => r.serial

/-- A qualified release at the entry station (R109). -/
def State.entryRelease (s : State) (ev : SenseEvent) : State :=
  let serial := s.youngestHeadSerial
  ((s.enterZone (biteRecord .tail serial none 0#8 ev)).offer serial .tail none).postReady none
    (takeAction .tail serial 0#8 false)

/-! ### The exit gate -/

/-- The EXIT_HEAD or EXIT_TAIL of a record (R112, R113). -/
def exitAction (z : TravelWord) (kind : FeatureKind) (r : FeatureRecord) : Action :=
  { kind := if kind = .head then .exitHead else .exitTail, serial := r.serial, feature := kind.code,
    tag := if kind = .tail then 255#8 else tagCode r.tag, early := r.early, value := saturate16 (toMm (r.position z)) }

/-- A qualified exit-rise (`kind` HEAD) or exit-fall (`kind` TAIL): the front-most record of the kind is taken with those
ahead of it, or FAULT EXIT_UNEXPECTED is posted (R112, R113). -/
def State.exitTake (s : State) (kind : FeatureKind) (ev : SenseEvent) : State :=
  match splitFirst (fun r => r.kind == kind) s.zone.queue with
  | none => s.post (faultAction .exitUnexpected 0#16 kind.code)
  | some (ahead, r, behind) =>
    ((s.countEarly r).remove ahead .implied (exitAction s.travel.z kind r) behind).offerExitSample r ev.w

/-! ### Delivering a qualified event -/

/-- A bite or release goes to the entry unit at the entry station and to the hand-off unit elsewhere (R44). -/
def State.deliverLoad (s : State) (kind : FeatureKind) (ev : SenseEvent) : State :=
  if s.startup.straps.first then
    if kind = .head then s.entryBite ev else s.entryRelease ev
  else s.detectedTake kind ev

/-! ### Commands of the entry list -/

/-- ANNOUNCE and WITHDRAW are taken at the entry station in TRACKING and PARKED (R105, R106). -/
def State.entryListOpen (s : State) : Bool :=
  s.startup.straps.first && (s.startup.station == .tracking || s.startup.station == .parked)

/-- The joined flag that a byte names: 0 no, 1 yes (R105, R158). -/
def joinedOfByte (b : Byte) : Option Bool := if b = 0#8 then some false else if b = 1#8 then some true else none

/-- ANNOUNCE, in the order of its checks (R105). -/
def State.announceBar (s : State) (serial : Serial) (tag joined : Byte) : State :=
  match joinedOfByte joined with
  | none => s.answer 3#8 .badValue
  | some j =>
    if serial = 0#16 then s.answer 3#8 .badValue
    else if s.entry.bars.any (fun b => b.serial == serial) then s.answer 3#8 .duplicate
    else if s.entry.bars.length < Config.entryCapacity then
      (s.withBars (s.entry.bars ++ [{ serial := serial, tag := tagOfByte tag, joined := j }])).answer 3#8 .done
    else s.answer 3#8 .full

/-- WITHDRAW (R106). -/
def State.withdrawBar (s : State) (serial : Serial) : State :=
  if serial = 0#16 then s.answer 4#8 .badValue
  else if s.entry.bars.any (fun b => b.serial == serial) then
    (s.withBars (s.entry.bars.filter (fun b => b.serial != serial))).answer 4#8 .done
  else s.answer 4#8 .notFound

/-- ANNOUNCE of a block (R105, R157, R158). -/
def execAnnounce (dt : Nat) (params : List Byte) (s : State) : Host.Outcome State Fault Refusal :=
  let t := s.elapse dt
  match params with
  | [hi, lo, tag, joined] =>
    .next (t.whenAllowed 3#8 t.entryListOpen (fun u => u.announceBar (word16 hi lo) tag joined))
  | _ => .next (t.answer 3#8 .badValue)

/-- WITHDRAW of a block (R106, R157, R158). -/
def execWithdraw (dt : Nat) (params : List Byte) (s : State) : Host.Outcome State Fault Refusal :=
  let t := s.elapse dt
  match params with
  | [hi, lo] => .next (t.whenAllowed 4#8 t.entryListOpen (fun u => u.withdrawBar (word16 hi lo)))
  | _ => .next (t.answer 4#8 .badValue)

end Sys2Proof.Machine
end

