-- ==== Sys2Proof/Machine/StandSensing.lean ====
section
/-!
DEFINITION. Stand sensing (chapter 3): the edge detectors, the delivery of qualified events, the join strobe and the bite
inhibit; and the pins whose change is an event of its own (SIGIN, CHAIN-IN, the end of STROBE).
-/

namespace Sys2Proof.Machine

/-! ### Edge detectors -/

/-- What an edge to `level` does to a detector: the new state, and whether an attempt was abandoned (R39, R40, R42).
`latch` holds the values of this edge. -/
def Detector.edge (d : Detector) (level : Bool) (latch : EdgeLatch) : Detector × Bool :=
  match d, level with
  | .armedLow, true => (.qualRise latch, false)
  | .armedHigh, false => (.qualFall latch, false)
  | .qualRise _, false => (.armedLow, true)
  | .qualFall _, true => (.armedHigh, true)
  | .waitLow, false => (.armedLow, false)
  | .dormant, _ => (d, false)
  | .armedLow, false => (d, false)
  | .armedHigh, true => (d, false)
  | .qualRise _, true => (d, false)
  | .qualFall _, false => (d, false)
  | .waitLow, true => (d, false)

/-- The values that an edge of this moment latches (R28, R39). -/
def State.edgeLatch (s : State) : EdgeLatch := { w := s.travel.w, z := s.travel.z, time := s.now }

/-- The qualify-fail count rises when an attempt was abandoned (R40). -/
def State.countFail (s : State) (failed : Bool) : State :=
  if failed then { s with sensing := { s.sensing with qualifyFail := satInc16 s.sensing.qualifyFail } } else s

/-- The LOAD detector takes an edge, unless a bite inhibit is running (R39, R47). -/
def State.loadDetects (s : State) (level : Bool) : State :=
  if s.sensing.inhibit.isSome then s
  else
    let d := s.sensing.load.edge level s.edgeLatch
    State.countFail { s with sensing := { s.sensing with load := d.1 } } d.2

/-- The EXIT detector takes an edge (R39). -/
def State.exitDetects (s : State) (level : Bool) : State :=
  let d := s.sensing.exit.edge level s.edgeLatch
  State.countFail { s with sensing := { s.sensing with exit := d.1 } } d.2

/-- The event that a latch delivers (R41, R44). -/
def EdgeLatch.event (l : EdgeLatch) : SenseEvent := { w := l.w, z := l.z, time := l.time, inhibited := false }

/-- The state with another LOAD detector. -/
def State.withLoad (s : State) (d : Detector) : State := { s with sensing := { s.sensing with load := d } }

/-- The state with another EXIT detector. -/
def State.withExit (s : State) (d : Detector) : State := { s with sensing := { s.sensing with exit := d } }

/-- The qualification timer of the LOAD detector reaches the qualify time: the level is accepted and the event delivered with
the latched values (R41, R44). Without a qualification in progress nothing happens. -/
def State.acceptLoad (s : State) : State :=
  match s.sensing.load with
  | .qualRise l => ((s.reach (l.time + s.startup.config.qualify)).withLoad .armedHigh).deliverLoad .head l.event
  | .qualFall l => ((s.reach (l.time + s.startup.config.qualify)).withLoad .armedLow).deliverLoad .tail l.event
  | .dormant => s
  | .armedLow => s
  | .armedHigh => s
  | .waitLow => s

/-- The qualification timer of the EXIT detector reaches the qualify time (R41, R44). -/
def State.acceptExit (s : State) : State :=
  match s.sensing.exit with
  | .qualRise l => ((s.reach (l.time + s.startup.config.qualify)).withExit .armedHigh).exitTake .head l.event
  | .qualFall l => ((s.reach (l.time + s.startup.config.qualify)).withExit .armedLow).exitTake .tail l.event
  | .dormant => s
  | .armedLow => s
  | .armedHigh => s
  | .waitLow => s

/-- QUALIFICATION_EXPIRY: the running qualification timer of a detector reaches the qualify time, the level is accepted and
the event is delivered with the latched values (R41, R44). -/
def execQualificationExpiry (input : StandInput) (s : State) : Host.Outcome State Fault Refusal :=
  match input with
  | .load => .next s.acceptLoad
  | .exit => .next s.acceptExit

/-- The edge time of a qualification in progress (R37). -/
def Detector.edgeTime (d : Detector) : Option Nat :=
  match d with
  | .qualRise l => some l.time
  | .qualFall l => some l.time
  | .dormant => none
  | .armedLow => none
  | .armedHigh => none
  | .waitLow => none

/-- The level has been held for longer than the qualify time at a moment (R41). -/
def Detector.heldLonger (d : Detector) (qualify moment : Nat) : Bool :=
  match d.edgeTime with
  | none => false
  | some time => decide (time + qualify < moment)

/-- A level held on LOAD for longer than the qualify time delivers its event before the moment (R41; log entry 2). -/
def State.settleLoad (s : State) (moment : Nat) : State :=
  if s.sensing.load.heldLonger s.startup.config.qualify moment then s.acceptLoad else s

/-- A level held on EXIT for longer than the qualify time delivers its event before the moment (R41; log entry 2). -/
def State.settleExit (s : State) (moment : Nat) : State :=
  if s.sensing.exit.heldLonger s.startup.config.qualify moment then s.acceptExit else s

/-- The qualification on EXIT started before the one on LOAD; of two that started together LOAD's comes first (log entry 28). -/
def Sensing.exitFirst (x : Sensing) : Bool :=
  match x.exit.edgeTime, x.load.edgeTime with
  | some e, some l => decide (e < l)
  | some _, none => false
  | none, some _ => false
  | none, none => false

/-- The levels held on both inputs for longer than the qualify time deliver their events before the moment, the one of the
earlier edge first (R41, R43; log entry 2). DESIGN CHOICE (log entry 28): of two levels with one edge time the one on LOAD
delivers first; the spec lets either be taken first (R115). -/
def State.settleBoth (s : State) (moment : Nat) : State :=
  if s.sensing.exitFirst then (s.settleExit moment).settleLoad moment else (s.settleLoad moment).settleExit moment

/-- LOAD_EDGE: LOAD goes to `level`; when it stood there already there was no edge (R39 to R42, R47). A qualification that ran
out before the edge has delivered its event (R41). -/
def execLoadEdge (dt : Nat) (level : Bool) (s : State) : Host.Outcome State Fault Refusal :=
  let t := s.elapse dt
  let u := (s.settleLoad t.now).reach t.now
  .next
    (if t.pins.load = level then t
     else State.loadDetects { u with pins := { u.pins with load := level } } level)

/-- EXIT_EDGE: EXIT goes to `level`; when it stood there already there was no edge (R39 to R42). A qualification that ran out
before the edge has delivered its event (R41). -/
def execExitEdge (dt : Nat) (level : Bool) (s : State) : Host.Outcome State Fault Refusal :=
  let t := s.elapse dt
  let u := (s.settleExit t.now).reach t.now
  .next
    (if t.pins.exit = level then t
     else State.exitDetects { u with pins := { u.pins with exit := level } } level)

/-- A detector in use leaves DORMANT by the level of its input (R38). -/
def armed (level : Bool) : Detector := if level then .waitLow else .armedLow

/-- Entering TRACKING: the detectors in use are armed, and FAULT BITE_PRESENT is posted when LOAD is high (R38). -/
def State.armDetectors (s : State) : State :=
  let t : State :=
    { s with
      sensing :=
        { s.sensing with
          load := armed s.pins.load
          exit := if s.startup.straps.last then armed s.pins.exit else s.sensing.exit } }
  if s.pins.load then t.post (faultAction .bitePresent 0#16 0#8) else t

/-- A qualification is in progress on LOAD or EXIT (R37). -/
def Detector.qualifying : Detector → Bool
  | .qualRise _ => true
  | .qualFall _ => true
  | .dormant => false
  | .armedLow => false
  | .armedHigh => false
  | .waitLow => false

/-- JOIN_STROBE: at the entry station in TRACKING a rising edge on JSTB is delivered at once (R45). -/
def execJoinStrobe (dt : Nat) (s : State) : Host.Outcome State Fault Refusal :=
  let t := s.elapse dt
  .next (if t.startup.straps.first = true ∧ t.startup.station = .tracking then t.entryJoin else t)

/-! ### The bite inhibit -/

/-- A HEAD is expected at a bite-inhibit expiry: the front expectation is a HEAD, or at the entry station the front bar is
unjoined (R49). -/
def State.headExpected (s : State) : Bool :=
  if s.startup.straps.first then
    match s.entry.bars with
    | [] => false
    | b :: _ => !b.joined
  else
    match s.handoff.expectations with
    | [] => false
    | e :: _ => e.kind == .head

/-- The LOAD detector after a bite-inhibit expiry (the table of R49). A detector that is not armed or waiting keeps its
state: the countdown runs in TRACKING alone, and there its start abandons a qualification (R47). -/
def Detector.afterInhibit (d : Detector) (level expected : Bool) : Detector :=
  match d with
  | .armedLow => if level then if expected then .armedHigh else .waitLow else .armedLow
  | .waitLow => if level then if expected then .armedHigh else .waitLow else .armedLow
  | .armedHigh => if level then .armedHigh else .armedLow
  | .dormant => d
  | .qualRise _ => d
  | .qualFall _ => d

/-- The bite-inhibit expiry at this moment (R49): the countdown stops, the LOAD detector takes its new state, and with LOAD
high and a HEAD expected a bite with inhibited = yes is delivered. -/
def State.inhibitExpires (s : State) : State :=
  let t : State :=
    { s with
      sensing :=
        { s.sensing with
          inhibit := none
          load := s.sensing.load.afterInhibit s.pins.load s.headExpected } }
  if s.pins.load = true ∧ s.headExpected = true then
    t.deliverLoad .head { w := s.travel.w, z := s.travel.z, time := s.now, inhibited := true }
  else t

/-- BITE_INHIBIT_EXPIRY: the running countdown reaches zero (R49). -/
def execBiteInhibitExpiry (s : State) : Host.Outcome State Fault Refusal :=
  match s.sensing.inhibit with
  | none => .next s
  | some deadline => .next (s.reach deadline).inhibitExpires

/-- A qualification in progress on LOAD is abandoned without a count when the countdown starts (R47). -/
def Detector.blind (d : Detector) : Detector :=
  match d with
  | .qualRise _ => .armedLow
  | .qualFall _ => .armedHigh
  | .dormant => d
  | .armedLow => d
  | .armedHigh => d
  | .waitLow => d

/-- The countdown starts, or starts again, from a time in ms (R46, R47). -/
def State.startInhibit (s : State) (ms : Nat) : State :=
  { s with sensing := { s.sensing with inhibit := some (s.now + ms * 1000), load := s.sensing.load.blind } }

/-- INHIBIT in TRACKING (R46). -/
def State.inhibitFor (s : State) (ms : Nat) : State :=
  if ms = 0 then
    if s.sensing.inhibit.isSome then s.inhibitExpires.answer 13#8 .done else s.answer 13#8 .done
  else if Config.inhibitMost < ms then (s.startInhibit Config.inhibitMost).answer 13#8 .clamped
  else (s.startInhibit ms).answer 13#8 .done

/-- INHIBIT of a block (R46, R157, R158). A qualification on LOAD that ran out before a countdown starts has delivered its
event (R41). -/
def execInhibit (dt : Nat) (params : List Byte) (s : State) : Host.Outcome State Fault Refusal :=
  let t := s.elapse dt
  match params with
  | [hi, lo] =>
    let ms := (word16 hi lo).toNat
    .next (t.whenAllowed 13#8 (t.startup.station == .tracking) (fun u =>
      if ms = 0 then u.inhibitFor 0 else ((s.settleLoad t.now).reach t.now).inhibitFor ms))
  | _ => .next (t.answer 13#8 .badValue)

/-! ### Signal pins -/

/-- The level of a signal input. -/
def Pins.sigin (p : Pins) : SignalInput → Bool
  | .sigin0 => p.sigin0
  | .sigin1 => p.sigin1

/-- The pins with a signal input at a level. -/
def Pins.withSigin (p : Pins) (input : SignalInput) (level : Bool) : Pins :=
  match input with
  | .sigin0 => { p with sigin0 := level }
  | .sigin1 => { p with sigin1 := level }

/-- The map of a signal input (R119). -/
def Configuration.sigin (c : Configuration) : SignalInput → PinMap
  | .sigin0 => c.sigin0
  | .sigin1 => c.sigin1

/-- SIGIN_CHANGE: a signal input goes to `level`, and the contributions of its mapped lines are formed afresh (R119). -/
def execSiginChange (dt : Nat) (input : SignalInput) (level : Bool) (s : State) : Host.Outcome State Fault Refusal :=
  let t := s.elapse dt
  .next
    (if t.pins.sigin input = level then t
     else
      State.formContributions { t with pins := t.pins.withSigin input level } (t.startup.config.sigin input).lines)

/-- CHAIN_IN_RISE: the level that CHAIN-IN takes is recorded and makes no choice by itself (R147): high at a rise
and low at a fall (R149; log entry 26). -/
def execChainInRise (change : ChainInChange) (s : State) : Host.Outcome State Fault Refusal :=
  let t := s.elapse change.dt
  .next { t with pins := { t.pins with chainIn := change.level } }

/-- STROBE_END: the width runs out after the latest pulse start and STROBE goes low (R132). -/
def execStrobeEnd (s : State) : Host.Outcome State Fault Refusal :=
  match s.strobe with
  | none => .next s
  | some deadline =>
    let t := s.reach deadline
    .next { t with strobe := none }

end Sys2Proof.Machine
end

