-- ==== Sys2Proof/Machine/LineExchange.lean ====
section
/-!
DEFINITION. The exchange of the train lines (chapter 8): what a received RAISE, VETO, ASK or DROP does, what follows when
an own frame is sent, and the veto window.
-/

namespace Sys2Proof.Machine

/-- A RAISE or a VETO received from another station (R125): the copies go high, the foreign asks are cleared, the own asks
end, and the lines leave the VETO and RAISE slots. -/
def State.lineHeld (s : State) (m : LineMask) (position : Nat) : State :=
  (((((s.copiesHigh m position).mapLines m (TrainLine.withForeignAsk false)).endAsks m).unmerge .veto m).unmerge .raise m)

/-- An ASK received from another station (R126): foreign-ask-heard is set, and a VETO is merged for each line whose own
contribution is set. -/
def State.lineAsked (s : State) (m : LineMask) : State :=
  (s.mapLines m (TrainLine.withForeignAsk true)).merge .veto (m &&& s.contributions)

/-- A DROP received from another station (R127): the copies go low, the foreign asks are cleared, the own asks end in
whatever phase they stand, the lines leave the ASK, DROP and VETO slots, and a RAISE is merged for each line whose own
contribution is set. -/
def State.lineDropped (s : State) (m : LineMask) (position : Nat) : State :=
  (((((((s.copiesLow m position).mapLines m (TrainLine.withForeignAsk false)).unmerge .ask m).unmerge .drop m).mapLines m
      (TrainLine.withAsk .none)).unmerge .veto m).merge .raise (m &&& s.contributions))

/-- An own RAISE is sent (R123): the copies go high, the foreign asks are cleared, and lines no longer contributed to and
without an own ask are asked about. -/
def State.raiseSent (s : State) (m : LineMask) : State :=
  ((s.copiesHigh m s.startup.position).mapLines m (TrainLine.withForeignAsk false)).beginAsks
    (m &&& ~~~s.contributions &&& s.askPhase .none)

/-- The veto window of a line starts (R123, R124). -/
def TrainLine.openWindow (windowEnd : Nat) (l : TrainLine) : TrainLine :=
  { l with ask := .window, windowEnd := some windowEnd }

/-- An own ASK is sent (R123): the lines in ASKING start their veto windows. -/
def State.askSent (s : State) (m : LineMask) : State :=
  s.mapLines (m &&& s.askPhase .asking) (TrainLine.openWindow (s.now + vetoWindowTime s.startup.straps))

/-- An own VETO is sent (R123). -/
def State.vetoSent (s : State) (m : LineMask) : State :=
  s.mapLines m (TrainLine.withForeignAsk false)

/-- An own DROP is sent (R123): the copies go low, the foreign asks are cleared, the own asks become NONE with their windows
stopped, and a RAISE is merged for each line whose own contribution is set. -/
def State.dropSent (s : State) (m : LineMask) : State :=
  ((((s.copiesLow m s.startup.position).mapLines m (TrainLine.withForeignAsk false)).mapLines m
      (TrainLine.withAsk .none)).merge .raise (m &&& s.contributions))

/-- A train-line frame of this station is sent (R123): its lines first leave the slot of its kind. -/
def State.lineFrameSent (s : State) (kind : LineKind) (m : LineMask) : State :=
  let t := s.unmerge kind m
  match kind with
  | .raise => t.raiseSent m
  | .ask => t.askSent m
  | .veto => t.vetoSent m
  | .drop => t.dropSent m

/-- The lines of an unsent frame that still call for it (R120). -/
def State.stillCalls (s : State) (kind : LineKind) (m : LineMask) : LineMask :=
  match kind with
  | .raise => m &&& s.contributions &&& ~~~s.copies
  | .ask => m &&& s.askPhase .asking
  | .veto => m &&& s.contributions &&& s.foreignAsks
  | .drop => m &&& s.askPhase .dropping

/-- The lines of an unsent frame return to the slot of its kind while they call for it (R120, R142). -/
def State.returnLines (s : State) (kind : LineKind) (m : LineMask) (filledAt : Nat) : State :=
  s.modifySlot kind (Slot.giveBack filledAt (s.stillCalls kind m))

/-- The lines in WINDOW whose windows end at a moment (R124). -/
def State.windowsEnding (s : State) (t : Nat) : LineMask :=
  s.lines.line.mask (fun l => l.ask == .window && l.windowEnd == some t)

/-- VETO_WINDOW_EXPIRY: the running window of a line runs out, with those that started with it: their own asks become
DROPPING and a DROP is merged for them (R124). -/
def execVetoWindowExpiry (line : Fin 8) (s : State) : Host.Outcome State Fault Refusal :=
  match (s.lines.line.get line).windowEnd with
  | none => .next s
  | some deadline =>
    let t := s.reach deadline
    let m := t.windowsEnding deadline
    .next ((t.merge .drop m).mapLines m (TrainLine.withAsk .dropping))

end Sys2Proof.Machine
end

