-- ==== Sys2Proof/Machine/StartUpUnit.lean ====
section
/-!
DEFINITION. The start-up unit (chapter 10) and the station states (section 1.6): hardware reset, choosing a position,
CLAIM, PLACED, CONFIGURE, CLOSE, PARK, RESUME and CLEAR TRACK.
-/

namespace Sys2Proof.Machine

/-- The state with another station state. -/
def State.withStation (s : State) (st : StationState) : State := { s with startup := { s.startup with station := st } }

/-- Entering CLAIMING with a chosen position queues a CLAIM (R147, R148). -/
def State.enterClaiming (s : State) (position : Nat) : State :=
  let t : State := { s with startup := { s.startup with station := .claiming, position := position } }
  t.enqueue t.claimBody none

/-- The part after hardware reset with given straps and input levels (R12, R20, R146). -/
def State.afterReset (s : State) (straps : Straps) (chainIn : Bool) : State :=
  let t : State :=
    { State.reset with
      pins := { s.pins with chainIn := chainIn }
      startup := { State.reset.startup with straps := straps }
      pending := s.pending }
  if straps.first then t.enterClaiming 1 else t

/-- HARDWARE_RESET (R146): every item takes its reset value; a station strapped FIRST enters CLAIMING at position 1. -/
def execHardwareReset (straps : Straps) (chainIn : Bool) (s : State) : Host.Outcome State Fault Refusal :=
  .next (s.afterReset straps chainIn)

/-! ### PLACED -/

/-- The silence timer of a kept record starts (R80). -/
def Neighbour.startTimer (n : Neighbour) (kept : Bool) (deadline : Nat) : Neighbour :=
  if kept then { n with silence := some deadline } else n

/-- The station's own CLAIM is sent in CLAIMING (R149): CHAIN-OUT rises, the station is PLACED, its timers start, and a RAISE
is merged for every line whose own contribution is set (R130). -/
def State.enterPlaced (s : State) : State :=
  let silence := s.now + s.startup.config.silenceTime
  let t : State :=
    { s with
      startup :=
        { s.startup with
          station := .placed
          chainOut := true
          claimRepeat := if s.repeatsClaim then some (s.now + Config.claimRepeatTime) else s.startup.claimRepeat }
      handoff :=
        { s.handoff with
          paceTimer := some (s.now + s.startup.config.pacePeriod * 1000)
          up := s.handoff.up.startTimer s.keepsUp silence
          down := s.handoff.down.startTimer s.keepsDown silence } }
  t.merge .raise t.contributions

/-- CLAIM_REPEAT_EXPIRY: the running timer expires; a CLAIM is queued unless one has a place, and the timer restarts with
10 ms (R150). -/
def execClaimRepeatExpiry (s : State) : Host.Outcome State Fault Refusal :=
  match s.startup.claimRepeat with
  | none => .next s
  | some deadline =>
    let t := s.reach deadline
    let u := if t.mill.queue.any (fun f => f.body.isClaim) then t else t.enqueue t.claimBody none
    .next { u with startup := { u.startup with claimRepeat := some (u.now + Config.claimRepeatTime) } }

/-! ### Received CLAIMs -/

/-- A CLAIM is recorded as the last CLAIM heard (R147). -/
def State.hearClaim (s : State) (position : Nat) (flags : Byte) : State :=
  { s with
    startup :=
      { s.startup with
        lastClaim := some { position := position, first := flags.getLsbD 0, last := flags.getLsbD 1 } } }

/-- The station chooses the position after that of a CLAIM, or is refused as the ninth (R147). -/
def State.choosePosition (s : State) (claimed : Nat) : State :=
  if claimed + 1 ≤ 8 then s.enterClaiming (claimed + 1)
  else (s.post (faultAction .trainTooLong 0#16 (BitVec.ofNat 8 (claimed + 1)))).enterStopped

/-- The claim repeat stops: the timer stops and a CLAIM that waits and is not in flight is taken out of its place (R150). -/
def State.stopClaimRepeat (s : State) : State :=
  { s with
    startup := { s.startup with claimRepeat := none }
    mill := { s.mill with queue := s.mill.queue.filter (fun f => !(f.body.isClaim && !f.flying)) } }

/-- A valid CLAIM that is no position clash reaches the start-up unit (R147, R148, R151); one whose position field differs
from its arbitration position is ignored. -/
def State.claimArrives (s : State) (arb : Arbitration) (position flags : Byte) : State :=
  if position.toNat ≠ arb.position then s
  else
    match s.startup.station with
    | .unset =>
      let t := s.hearClaim arb.position flags
      if s.startup.straps.first = false ∧ s.pins.chainIn = true then t.choosePosition arb.position else t
    | .claiming => s.hearClaim arb.position flags
    | .placed =>
      if s.fromDownstream arb then (s.hearClaim arb.position flags).stopClaimRepeat else s.hearClaim arb.position flags
    | .tracking =>
      if s.fromDownstream arb then (s.hearClaim arb.position flags).stopClaimRepeat else s.hearClaim arb.position flags
    | .parked =>
      if s.fromDownstream arb then (s.hearClaim arb.position flags).stopClaimRepeat else s.hearClaim arb.position flags
    | .stopped => s

/-! ### CONFIGURE -/

/-- A value clamped to a range (section 4). -/
def clampTo (lo hi v : Nat) : Nat := max lo (min hi v)

/-- The largest zone length: 200,000 mm at a station strapped LAST, otherwise 20,000 mm (R152, R153). -/
def zoneLengthMost (last : Bool) : Nat := if last then 200000 else 20000

/-- A late margin clamped to 50 to 5,000 mm and then to half the zone length (R153). -/
def clampLate (zoneLength v : Nat) : Nat := min (zoneLength / 2) (clampTo 50 5000 v)

/-- An early window clamped to 0 to 5,000 mm and then to half the zone length (R153). -/
def clampEarly (zoneLength v : Nat) : Nat := min (zoneLength / 2) (clampTo 0 5000 v)

/-- The value that a numeric item takes, or `none` for an item number that names no numeric item (R152, R153). -/
def itemValue (last : Bool) (zoneLength item v : Nat) : Option Nat :=
  match item with
  | 1 => some (clampTo 500 (zoneLengthMost last) v)
  | 2 => some (clampTo 1024 4096000 v)
  | 3 => some (clampTo 0 16384 v)
  | 4 => some (clampTo 0 16 v)
  | 5 => some (clampTo 100 50000 v)
  | 6 => some (clampLate zoneLength v)
  | 7 => some (clampEarly zoneLength v)
  | 8 => some (clampTo 5 100 v)
  | 9 => some (clampTo 2 15 v)
  | 10 => some (clampTo 10 10000 v)
  | _ => none

/-- The record with a numeric item written (R152). -/
def Configuration.writeItem (c : Configuration) (item v : Nat) : Configuration :=
  match item with
  | 1 => { c with zoneLength := v }
  | 2 => { c with pitch := v }
  | 3 => { c with initialSlip := v }
  | 4 => { c with gain := v }
  | 5 => { c with qualify := v }
  | 6 => { c with lateMargin := v }
  | 7 => { c with earlyWindow := v }
  | 8 => { c with pacePeriod := v }
  | 9 => { c with silencePeriods := v }
  | 10 => { c with strobeWidth := v }
  | _ => c

/-- An item number that names a map: 11 to 14 the SIGOUT maps, 15 and 16 the SIGIN maps (R152). -/
def isMapItem (item : Nat) : Bool := decide (11 ≤ item ∧ item ≤ 16)

/-- The record with a map item written (R154). -/
def Configuration.writeMap (c : Configuration) (item : Nat) (map : PinMap) : Configuration :=
  match item with
  | 11 => { c with sigout0 := map }
  | 12 => { c with sigout1 := map }
  | 13 => { c with sigout2 := map }
  | 14 => { c with sigout3 := map }
  | 15 => { c with sigin0 := map }
  | 16 => { c with sigin1 := map }
  | _ => c

/-- The lines whose contribution a new map may change: those of a SIGIN map before and after (R119, R154). -/
def Configuration.mapLines (c : Configuration) (item : Nat) (map : PinMap) : LineMask :=
  match item with
  | 15 => c.sigin0.lines ||| map.lines
  | 16 => c.sigin1.lines ||| map.lines
  | _ => 0#8

/-- The inversion that a byte names: 0 off, 1 on (R154, R158). -/
def inversionOfByte (b : Byte) : Option Bool := if b = 0#8 then some false else if b = 1#8 then some true else none

/-- The state with another configuration record. -/
def State.withConfig (s : State) (c : Configuration) : State := { s with startup := { s.startup with config := c } }

/-- CONFIGURE of a numeric item (R152, R153). -/
def State.configureNumber (s : State) (item v : Nat) : State :=
  match itemValue s.startup.straps.last s.startup.config.zoneLength item v with
  | none => s.answer 1#8 .badValue
  | some written =>
    (s.withConfig (s.startup.config.writeItem item written)).answer 1#8 (if written = v then .done else .clamped)

/-- CONFIGURE of a map item (R154): the map is written, and a SIGIN map forms the contributions of its lines afresh (R119). -/
def State.configureMap (s : State) (item : Nat) (lines inversion : Byte) : State :=
  match inversionOfByte inversion with
  | none => s.answer 1#8 .badValue
  | some inv =>
    ((s.withConfig (s.startup.config.writeMap item { lines := lines, inverted := inv })).formContributions
      (s.startup.config.mapLines item { lines := lines, inverted := inv })).answer 1#8 .done

/-- UNSET, CLAIMING or PLACED: the configuration record is open (R152). -/
def StationState.open : StationState → Bool
  | .unset => true
  | .claiming => true
  | .placed => true
  | .tracking => false
  | .parked => false
  | .stopped => false

/-- CONFIGURE of a block: item, and a value of four bytes; for a map item the lowest byte is the line set and the next the
inversion (R152 to R154, R157, R158). -/
def execConfigure (dt : Nat) (params : List Byte) (s : State) : Host.Outcome State Fault Refusal :=
  let t := s.elapse dt
  match params with
  | [item, v3, v2, v1, v0] =>
    .next (t.whenAllowed 1#8 t.startup.station.open (fun u =>
      if isMapItem item.toNat then u.configureMap item.toNat v0 v1
      else u.configureNumber item.toNat (ofBigEndian [v3, v2, v1, v0])))
  | _ => .next (t.answer 1#8 .badValue)

/-! ### CLOSE -/

/-- The record with both margins clamped again against the final zone length (R155). -/
def Configuration.closed (c : Configuration) : Configuration :=
  { c with lateMargin := clampLate c.zoneLength c.lateMargin, earlyWindow := clampEarly c.zoneLength c.earlyWindow }

/-- CLOSE in PLACED, in the order of R155; the answer tells whether a margin changed. -/
def State.closeConfiguration (s : State) : State :=
  let c := s.startup.config.closed
  let t : State :=
    { s with
      startup := { s.startup with config := c, station := .tracking }
      zone := { s.zone with thresholds := c.thresholds }
      travel := s.travel.closed
      slip := { s.slip with code := c.initialSlip } }
  t.armDetectors.answer 2#8
    (if c.lateMargin = s.startup.config.lateMargin ∧ c.earlyWindow = s.startup.config.earlyWindow then .done else .clamped)

/-- CLOSE of a block (R155, R157, R158). -/
def execClose (dt : Nat) (params : List Byte) (s : State) : Host.Outcome State Fault Refusal :=
  let t := s.elapse dt
  match params with
  | [] => .next (t.whenAllowed 2#8 (t.startup.station == .placed) State.closeConfiguration)
  | _ => .next (t.answer 2#8 .badValue)

/-! ### PARK, RESUME, CLEAR TRACK -/

/-- The three conditions of PARK (R15). -/
def State.clearToPark (s : State) : Bool :=
  s.zone.queue.isEmpty && s.handoff.expectations.isEmpty && !s.sensing.load.qualifying && !s.sensing.exit.qualifying

/-- Entering PARKED: T_p stalled and the stall timer stopped (R21), the countdown ended without its expiry (R15), the
detectors DORMANT (R43). -/
def State.enterParked (s : State) : State :=
  { s with
    startup := { s.startup with station := .parked }
    travel := { s.travel with tp := Config.stalled, stallRunning := false }
    sensing := { s.sensing with load := .dormant, exit := .dormant, inhibit := none } }

/-- PARK in TRACKING (R15). -/
def State.park (s : State) : State :=
  if s.clearToPark then s.enterParked.answer 10#8 .done else s.answer 10#8 .notClear

/-- PARK of a block (R15, R157, R158). -/
def execPark (dt : Nat) (params : List Byte) (s : State) : Host.Outcome State Fault Refusal :=
  let t := s.elapse dt
  match params with
  | [] => .next (t.whenAllowed 10#8 (t.startup.station == .tracking) State.park)
  | _ => .next (t.answer 10#8 .badValue)

/-- RESUME in PARKED (R16, R21, R38). -/
def State.resumeTracking (s : State) : State :=
  let t : State :=
    { s with
      startup := { s.startup with station := .tracking }
      travel := { s.travel with restart := true } }
  t.armDetectors.answer 11#8 .done

/-- RESUME of a block (R16, R157, R158). -/
def execResume (dt : Nat) (params : List Byte) (s : State) : Host.Outcome State Fault Refusal :=
  let t := s.elapse dt
  match params with
  | [] => .next (t.whenAllowed 11#8 (t.startup.station == .parked) State.resumeTracking)
  | _ => .next (t.answer 11#8 .badValue)

/-- CLEAR TRACK in TRACKING or PARKED (R17): the zone queue and the expectation list are emptied, the last take is "none",
the overdue/zone-full flag is cleared, and the TRIP and THREAD contributions are formed afresh (R10, R11). -/
def State.clearTrack (s : State) : State :=
  let t : State :=
    { s with
      zone := { s.zone with queue := [], overdueFlag := false }
      handoff := { s.handoff with expectations := [], lastTake := none } }
  (t.formContributions (tripLine ||| threadLine)).answer 12#8 .done

/-- CLEAR TRACK of a block (R17, R157, R158). -/
def execClearTrack (dt : Nat) (params : List Byte) (s : State) : Host.Outcome State Fault Refusal :=
  let t := s.elapse dt
  match params with
  | [] =>
    .next (t.whenAllowed 12#8 (t.startup.station == .tracking || t.startup.station == .parked) State.clearTrack)
  | _ => .next (t.answer 12#8 .badValue)

end Sys2Proof.Machine
end

