-- ==== Sys2Proof/Machine/MillLine.lean ====
section
/-!
DEFINITION. The mill line interface (chapter 9): the receiver, attempts to send and their ends, the delivery of received
frames, and the position clash.
-/

namespace Sys2Proof.Machine

/-! ### Receiver -/

/-- The start-of-frame latch of this moment (R28, R33). -/
def State.sofNow (s : State) : SofLatch :=
  { w := s.travel.w, z := s.travel.z, tp := s.travel.tp, aLast := s.travel.aLast, time := s.now }

/-- The receiver in a state with an idle count (R135). -/
def State.withReceiver (s : State) (rx : Receiver) (idle : Nat) : State :=
  { s with mill := { s.mill with rx := rx, idle := idle } }

/-- A start of frame is detected: the latch is made and the receiver is RECEIVING (R33, R135). -/
def State.detectSof (s : State) : State :=
  { s with mill := { s.mill with rx := .receiving, ownTail := false, idle := 0, sof := s.sofNow } }

/-- START_OF_FRAME: a dominant bit is read; in READY it starts a frame (R33, R135). -/
def execStartOfFrame (dt : Nat) (s : State) : Host.Outcome State Fault Refusal :=
  let t := s.elapse dt
  .next
    (match t.mill.rx with
     | .ready => t.detectSof
     | .hunt => t.withReceiver .hunt 0
     | .receiving => t.withReceiver .receiving 0)

/-- LINE_IDLE: the idle count reaches 11 and a receiver in HUNT is READY (R135). The station's own frame that was sent has ended
at the sixth of these bits, so its receiver has gone to HUNT on the way (R138; log entry 11). -/
def execLineIdle (dt : Nat) (s : State) : Host.Outcome State Fault Refusal :=
  let t := s.elapse dt
  .next
    (match t.mill.rx with
     | .hunt => t.withReceiver .ready Config.idleBits
     | .ready => t
     | .receiving =>
       if t.mill.ownTail then
         { t with mill := { t.mill with rx := .ready, ownTail := false, idle := Config.idleBits } }
       else t)

/-- The counts and the receiver after a frame that is not valid (R139, R145). An abandoned frame ends on a dominant bit,
the others at the sixth recessive bit of the closing run (R138). -/
def State.rejectFrame (s : State) (v : Verdict) : State :=
  match v with
  | .stuffing => State.withReceiver { s with mill := { s.mill with rxErrors := satInc16 s.mill.rxErrors } } .hunt 0
  | .overlong => State.withReceiver { s with mill := { s.mill with overlong := satInc16 s.mill.overlong } } .hunt 0
  | .unknownKind =>
    State.withReceiver { s with mill := { s.mill with unknownKinds := satInc16 s.mill.unknownKinds } } .hunt 6
  | .notWholeByte => State.withReceiver { s with mill := { s.mill with rxErrors := satInc16 s.mill.rxErrors } } .hunt 6
  | .tooShort => State.withReceiver { s with mill := { s.mill with rxErrors := satInc16 s.mill.rxErrors } } .hunt 6
  | .crcFailed => State.withReceiver { s with mill := { s.mill with rxErrors := satInc16 s.mill.rxErrors } } .hunt 6
  | .badLength => State.withReceiver { s with mill := { s.mill with rxErrors := satInc16 s.mill.rxErrors } } .hunt 6
  | .incomplete => s
  | .valid _ _ => s

/-- A frame of another station is being read: the receiver is RECEIVING, no own attempt is under way, and the frame is not the
station's own (R135, R139). -/
def State.reading (s : State) : Bool := s.mill.rx == .receiving && s.mill.flight.isNone && !s.mill.ownTail

/-- FRAME_INVALID: the line bits of the frame being read are judged, and the frame is discarded or ignored and counted. A frame
of the station's own attempt is not checked, its end not either, and raises no count (R136, R139, R145; log entry 4). -/
def execFrameInvalid (dt : Nat) (bits : List Bool) (s : State) : Host.Outcome State Fault Refusal :=
  let t := s.elapse dt
  .next (if t.reading then t.rejectFrame (judgeLine bits) else t)

/-! ### Attempts -/

/-- The station may drive the line (R13). -/
def StationState.sends (st : StationState) : Bool := st == .claiming || st.operating

/-- The earlier of a filled slot found so far and the next slot in the order RAISE, VETO, ASK, DROP (R142). -/
def earlierSlot (best : Option (LineKind × Slot)) (kind : LineKind) (slot : Slot) : Option (LineKind × Slot) :=
  if slot.mask = 0#8 then best
  else
    match best with
    | none => some (kind, slot)
    | some (k, b) => if slot.filledAt < b.filledAt then some (kind, slot) else some (k, b)

/-- The filled slot that stands first: earliest filling time, then the order RAISE, VETO, ASK, DROP (R142). -/
def Slots.first (slots : Slots) : Option (LineKind × Slot) :=
  earlierSlot (earlierSlot (earlierSlot (earlierSlot none .raise slots.raise) .veto slots.veto) .ask slots.ask) .drop
    slots.drop

/-- The frame of a place that stands first: urgent before routine, each class in the order of queueing (R142). -/
def firstPlace (queue : List QueuedFrame) : Option QueuedFrame :=
  match queue.find? (fun f => !f.body.routine) with
  | some f => some f
  | none => queue.head?

/-- The age count at a moment, saturated at 65,535 (R32). -/
def AgeCount.at (a : AgeCount) (now : Nat) : Nat := min 65535 (a.base + (now - a.since))

/-- The age that is stamped into a frame; 0 for a frame without an age field (R32). -/
def QueuedFrame.stamp (f : QueuedFrame) (now : Nat) : Nat :=
  match f.age with
  | none => 0
  | some a => a.at now

/-- The line bits of a frame of a place with a stamped age (R134, R137, section 9.6.1). -/
def FrameBody.wire (body : FrameBody) (position age : Nat) : List Bool :=
  frameLine (headerByte body.routine (position - 1) body.kindCode :: body.payload age)

/-- The line bits of a train-line frame, which is urgent (section 9.6.1). -/
def lineWire (kind : LineKind) (m : LineMask) (position : Nat) : List Bool :=
  frameLine [headerByte false (position - 1) kind.code, m]

/-- The places with the first frame of a class in flight (R144). -/
def markFlying (routine : Bool) (queue : List QueuedFrame) : List QueuedFrame :=
  modifyFirst (fun f => f.body.routine == routine) (fun f => { f with flying := true }) queue

/-- The attempt of what stands first in the order of sending, if anything waits (R142, R144). -/
def State.beginAttempt (s : State) : State :=
  match s.mill.slots.first with
  | some (kind, slot) =>
    let t := (s.modifySlot kind (fun _ => Slot.empty)).detectSof
    { t with
      mill :=
        { t.mill with
          flight := some { source := .slot kind slot.mask slot.filledAt, wire := lineWire kind slot.mask s.startup.position } } }
  | none =>
    match firstPlace s.mill.queue with
    | some f =>
      let t := s.detectSof
      { t with
        mill :=
          { t.mill with
            queue := markFlying f.body.routine t.mill.queue
            flight := some { source := .place f.body, wire := f.body.wire s.startup.position (f.stamp s.now) } } }
    | none => s

/-- ATTEMPT: with the line idle and a frame or filled slot waiting, the station drives a start of frame (R144). -/
def execAttempt (dt : Nat) (s : State) : Host.Outcome State Fault Refusal :=
  let t := s.elapse dt
  .next
    (if t.startup.station.sends = true ∧ t.mill.rx = .ready ∧ t.mill.flight = none then t.beginAttempt else t)

/-- The recessive bits that end a run of line bits (R135). -/
def trailingRecessive (bits : List Bool) : Nat := (bits.reverse.takeWhile id).length

/-- The places without the frame in flight: it was sent or discarded (R144). -/
def State.dropFlying (s : State) : State :=
  { s with mill := { s.mill with queue := s.mill.queue.filter (fun f => !f.flying), flight := none } }

/-- The attempt ends and its frame stays in its place (R144). -/
def State.keepFlying (s : State) : State :=
  { s with
    mill := { s.mill with queue := s.mill.queue.map (fun f => { f with flying := false }), flight := none } }

/-- The attempt of a train-line frame ends (R120). -/
def State.endFlight (s : State) : State := { s with mill := { s.mill with flight := none } }

/-- The effects of a frame that is sent (R123, R144, R149). -/
def State.flightSent (s : State) (f : Flight) : State :=
  match f.source with
  | .place body =>
    let t := s.dropFlying
    if body.isClaim = true ∧ s.startup.station = .claiming then t.enterPlaced else t
  | .slot kind m _ => s.endFlight.lineFrameSent kind m

/-- The end of the own attempt at its last CRC bit: the receiver reads on to the end of the frame (R135, R136, R138). -/
def State.readOn (s : State) (f : Flight) : State :=
  { s with
    mill := { s.mill with rx := .receiving, ownTail := true, idle := min Config.idleBits (trailingRecessive f.wire) } }

/-- FRAME_SENT: the attempt has driven its last CRC bit without a bit error (R136, R144). Its receiver reads the end delimiter
and then waits for the line to become idle (R138; log entry 11). -/
def execFrameSent (dt : Nat) (s : State) : Host.Outcome State Fault Refusal :=
  let t := s.elapse dt
  .next
    (match t.mill.flight with
     | none => t
     | some f => (t.readOn f).flightSent f)

/-- The line bits of an attempt can lose arbitration: a recessive bit stands in the arbitration field (R136). -/
def canLose (wire : List Bool) : Bool := ((wire.drop 1).take 4).any id

/-- What becomes of a frame that lost arbitration (R120, R144). -/
def State.flightLost (s : State) (f : Flight) : State :=
  match f.source with
  | .place _ => s.keepFlying
  | .slot kind m filledAt => s.endFlight.returnLines kind m filledAt

/-- ARBITRATION_LOST: the station stops driving and reads on as a receiver (R136, R144). -/
def execArbitrationLost (dt : Nat) (s : State) : Host.Outcome State Fault Refusal :=
  let t := s.elapse dt
  .next
    (match t.mill.flight with
     | none => t
     | some f => if canLose f.wire then (t.withReceiver .receiving 0).flightLost f else t)

/-- A mismatch at a bit of the frame is a bit error: from the start of frame to the last bit of the CRC, other than a
recessive bit of the arbitration field read dominant (R136). -/
def isBitError (wire : List Bool) (bit : Nat) : Bool :=
  match wire[bit]? with
  | none => false
  | some level => !(level && decide (1 ≤ bit ∧ bit ≤ 4))

/-- The idle count after a bit error at a bit: 0 when a dominant bit was read in place of a recessive one, 11 as before when
the start of frame itself was read recessive, and otherwise one more than the recessive bits before it (R135). -/
def idleAfterBitError (wire : List Bool) (bit : Nat) : Nat :=
  if wire.getD bit true then 0
  else if bit = 0 then Config.idleBits
  else min Config.idleBits (trailingRecessive (wire.take bit) + 1)

/-- What becomes of a frame whose attempt ended in a bit error: it is discarded, and a CLAIM lost in CLAIMING is queued
again; the lines of a train-line frame return (R120, R144, R148). -/
def State.flightFailed (s : State) (f : Flight) : State :=
  match f.source with
  | .place body =>
    let t := s.dropFlying
    if body.isClaim = true ∧ s.startup.station = .claiming then t.enqueue t.claimBody none else t
  | .slot kind m filledAt => s.endFlight.returnLines kind m filledAt

/-- BIT_ERROR: the station reads another level than it sent at bit `bit`; the attempt ends, the transmit-error count rises
and the receiver goes to HUNT (R136, R144, R145). -/
def execBitError (dt : Nat) (bit : Nat) (s : State) : Host.Outcome State Fault Refusal :=
  let t := s.elapse dt
  .next
    (match t.mill.flight with
     | none => t
     | some f =>
       if isBitError f.wire bit then
         let u := t.withReceiver .hunt (idleAfterBitError f.wire bit)
         State.flightFailed { u with mill := { u.mill with txErrors := satInc16 u.mill.txErrors } } f
       else t)

/-! ### Received frames -/

/-- A position clash: FAULT POSITION_CLASH, then STOPPED (R140). -/
def State.clash (s : State) (arb : Arbitration) : State :=
  (s.post (faultAction .positionClash 0#16 (BitVec.ofNat 8 arb.position))).enterStopped

/-- A valid frame of another station reaches its end (R138, R140, R141): a frame with the own position in PLACED, TRACKING
or PARKED is a position clash, before which a level held for longer than the qualify time has delivered its event (R41, R43);
any other is handled. Nothing is received while no frame is being read. -/
def State.receive (s : State) (dt : Nat) (arb : Arbitration) (handle : State → State) : State :=
  let t := s.elapse dt
  if t.reading then
    if t.startup.station.operating = true ∧ arb.position = t.startup.position then
      ((t.settleBoth t.now).withReceiver .hunt 6).clash arb
    else handle (t.withReceiver .hunt 6)
  else t

/-- A frame for a block that acts in PLACED, TRACKING and PARKED; elsewhere it is not delivered (R13). The refresh of the
sender's neighbour record follows (R80, R141). -/
def State.handled (s : State) (arb : Arbitration) (acts : State → State) : State :=
  if s.startup.station.operating then (acts s).refreshFrom arb else s

/-- CLAIM_RECEIVED (R147, R148, R151). -/
def execClaimReceived (dt : Nat) (arb : Arbitration) (position flags : Byte) (s : State) :
    Host.Outcome State Fault Refusal :=
  .next (s.receive dt arb (fun u => (u.claimArrives arb position flags).refreshFrom arb))

/-- OFFER_RECEIVED (R53, R55, R56). -/
def execOfferReceived (dt : Nat) (arb : Arbitration) (serial : Serial) (kind tag : Byte) (s : State) :
    Host.Outcome State Fault Refusal :=
  .next (s.receive dt arb (fun u => u.handled arb (fun v => v.fromAbove arb (fun x => x.offerActs serial kind tag))))

/-- TAKE_RECEIVED (R72 to R75). -/
def execTakeReceived (dt : Nat) (arb : Arbitration) (serial : Serial) (kind anon : Byte) (age : BitVec 16) (s : State) :
    Host.Outcome State Fault Refusal :=
  .next (s.receive dt arb (fun u => u.handled arb (fun v => v.takeArrives arb serial kind anon age.toNat)))

/-- PASS_RECEIVED (R84, R86). -/
def execPassReceived (dt : Nat) (arb : Arbitration) (serial : Serial) (tag flags : Byte) (age : BitVec 16) (s : State) :
    Host.Outcome State Fault Refusal :=
  .next
    (s.receive dt arb (fun u => u.handled arb (fun v => v.fromAbove arb (fun x =>
      x.joinArrives .passed serial (tagOfByte tag) (flags.getLsbD 0) 0 age.toNat))))

/-- LAPSE_RECEIVED (R88, R86). -/
def execLapseReceived (dt : Nat) (arb : Arbitration) (serial : Serial) (tag flags : Byte) (overrun age : BitVec 16)
    (s : State) : Host.Outcome State Fault Refusal :=
  .next
    (s.receive dt arb (fun u => u.handled arb (fun v => v.fromAbove arb (fun x =>
      x.lapseActs serial (tagOfByte tag) (flags.getLsbD 0) overrun.toNat age.toNat))))

/-- BIND_RECEIVED (R70). -/
def execBindReceived (dt : Nat) (arb : Arbitration) (serial : Serial) (kind tag anon : Byte) (s : State) :
    Host.Outcome State Fault Refusal :=
  .next (s.receive dt arb (fun u => u.handled arb (fun v => v.fromAbove arb (fun x => x.bindActs serial kind tag anon))))

/-- PACE_RECEIVED (R81, R82). -/
def execPaceReceived (dt : Nat) (arb : Arbitration) (head : Byte) (serial : Serial) (kind : Byte) (s : State) :
    Host.Outcome State Fault Refusal :=
  .next
    (s.receive dt arb (fun u =>
      if u.startup.station.operating then u.paceArrives arb (readPaceHead head) (readLastTake serial kind) else u))

/-- RAISE_RECEIVED (R125). -/
def execRaiseReceived (dt : Nat) (arb : Arbitration) (mask : LineMask) (s : State) : Host.Outcome State Fault Refusal :=
  .next (s.receive dt arb (fun u => u.handled arb (fun v => v.lineHeld mask arb.position)))

/-- VETO_RECEIVED (R125). -/
def execVetoReceived (dt : Nat) (arb : Arbitration) (mask : LineMask) (s : State) : Host.Outcome State Fault Refusal :=
  .next (s.receive dt arb (fun u => u.handled arb (fun v => v.lineHeld mask arb.position)))

/-- ASK_RECEIVED (R126). -/
def execAskReceived (dt : Nat) (arb : Arbitration) (mask : LineMask) (s : State) : Host.Outcome State Fault Refusal :=
  .next (s.receive dt arb (fun u => u.handled arb (fun v => v.lineAsked mask)))

/-- DROP_RECEIVED (R127). -/
def execDropReceived (dt : Nat) (arb : Arbitration) (mask : LineMask) (s : State) : Host.Outcome State Fault Refusal :=
  .next (s.receive dt arb (fun u => u.handled arb (fun v => v.lineDropped mask arb.position)))

end Sys2Proof.Machine
end

