-- ==== Sys2Proof/Machine/ControllerPort.lean ====
section
/-!
DEFINITION. The controller port (chapter 11): blocks that carry no command, the ready list, the host flags, attention, the
counts, and the three READ commands with their data (sections 9.6.3 to 9.6.5).
-/

namespace Sys2Proof.Machine

/-- NULL_BLOCK: no command is taken and the held response stays (R156). -/
def execNullBlock (dt : Nat) (s : State) : Host.Outcome State Fault Refusal :=
  .next (s.elapse dt)

/-- UNKNOWN_COMMAND: a code that names no command is answered UNKNOWN (R157, R158). -/
def execUnknownCommand (dt : Nat) (code : Byte) (s : State) : Host.Outcome State Fault Refusal :=
  let t := s.elapse dt
  .next (if knownCode code then t else t.answer code .unknown)

/-- BLOCK_CHECK_FAILED: the block is not carried out and CHECK_FAILED is the held response (R157). -/
def execBlockCheckFailed (dt : Nat) (bytes : List Byte) (s : State) : Host.Outcome State Fault Refusal :=
  let t := s.elapse dt
  .next
    (match judgeBlock bytes with
     | .failed code => t.answer code .checkFailed
     | .null => t
     | .sound _ _ => t)

/-! ### Ready list -/

/-- The state with another ready list. -/
def State.withReady (s : State) (l : List SetTag) : State := { s with port := { s.port with ready := l } }

/-- READY, by the table of R57. -/
def State.readyTag (s : State) (tag : Byte) : State :=
  match tagOfByte tag with
  | none => s.answer 5#8 .badValue
  | some t =>
    if s.port.ready.contains t then s.answer 5#8 .done
    else if s.port.ready.length < Config.readyCapacity then (s.withReady (s.port.ready ++ [t])).answer 5#8 .done
    else s.answer 5#8 .full

/-- UNREADY (R58). -/
def State.unreadyTag (s : State) (tag : Byte) : State :=
  match tagOfByte tag with
  | none => s.answer 6#8 .badValue
  | some t =>
    if s.port.ready.contains t then (s.withReady (s.port.ready.filter (fun u => u != t))).answer 6#8 .done
    else s.answer 6#8 .notFound

/-- READY of a block (R57, R157, R158). -/
def execReady (dt : Nat) (params : List Byte) (s : State) : Host.Outcome State Fault Refusal :=
  let t := s.elapse dt
  match params with
  | [tag] => .next (t.whenAllowed 5#8 t.startup.station.operating (fun u => u.readyTag tag))
  | _ => .next (t.answer 5#8 .badValue)

/-- UNREADY of a block (R58, R157, R158). -/
def execUnready (dt : Nat) (params : List Byte) (s : State) : Host.Outcome State Fault Refusal :=
  let t := s.elapse dt
  match params with
  | [tag] => .next (t.whenAllowed 6#8 t.startup.station.operating (fun u => u.unreadyTag tag))
  | _ => .next (t.answer 6#8 .badValue)

/-! ### Host flags -/

/-- The host TRIP flag set or cleared, with the TL0 contribution formed afresh (R118). -/
def State.setHostTrip (s : State) (flag : Bool) : State :=
  State.formContributions { s with lines := { s.lines with hostTrip := flag } } tripLine

/-- TRIP of a block (R118, R157, R158). -/
def execTrip (dt : Nat) (params : List Byte) (s : State) : Host.Outcome State Fault Refusal :=
  let t := s.elapse dt
  match params with
  | [] => .next (t.whenAllowed 7#8 t.startup.station.operating (fun u => (u.setHostTrip true).answer 7#8 .done))
  | _ => .next (t.answer 7#8 .badValue)

/-- CLEAR TRIP of a block (R118, R157, R158). -/
def execClearTrip (dt : Nat) (params : List Byte) (s : State) : Host.Outcome State Fault Refusal :=
  let t := s.elapse dt
  match params with
  | [] => .next (t.whenAllowed 8#8 t.startup.station.operating (fun u => (u.setHostTrip false).answer 8#8 .done))
  | _ => .next (t.answer 8#8 .badValue)

/-- The lines TL2 to TL7 (R118). -/
def signalLines : LineMask := 0xFC#8

/-- SIGNAL (R118): the bits of TL0 and TL1 are ignored, a line named in both masks is refused, and otherwise the flags are
set and cleared and the contributions formed afresh. -/
def State.signal (s : State) (set clear : LineMask) : State :=
  if set &&& clear &&& signalLines ≠ 0#8 then s.answer 9#8 .badValue
  else
    (State.formContributions
        { s with
          lines :=
            { s.lines with signals := (s.lines.signals ||| (set &&& signalLines)) &&& ~~~(clear &&& signalLines) } }
        ((set ||| clear) &&& signalLines)).answer 9#8 .done

/-- SIGNAL of a block (R118, R157, R158). -/
def execSignal (dt : Nat) (params : List Byte) (s : State) : Host.Outcome State Fault Refusal :=
  let t := s.elapse dt
  match params with
  | [set, clear] => .next (t.whenAllowed 9#8 t.startup.station.operating (fun u => u.signal set clear))
  | _ => .next (t.answer 9#8 .badValue)

/-! ### Attention -/

/-- The attention enable set or cleared (R162). -/
def State.setAttention (s : State) (enable : Bool) : State :=
  { s with port := { s.port with attnEnable := enable } }

/-- ATTN ENABLE of a block (R162, R157, R158). -/
def execAttnEnable (dt : Nat) (params : List Byte) (s : State) : Host.Outcome State Fault Refusal :=
  let t := s.elapse dt
  match params with
  | [] =>
    .next (t.whenAllowed 15#8 (t.startup.station != .stopped) (fun u => (u.setAttention true).answer 15#8 .done))
  | _ => .next (t.answer 15#8 .badValue)

/-- ATTN DISABLE of a block (R162, R157, R158). -/
def execAttnDisable (dt : Nat) (params : List Byte) (s : State) : Host.Outcome State Fault Refusal :=
  let t := s.elapse dt
  match params with
  | [] =>
    .next (t.whenAllowed 16#8 (t.startup.station != .stopped) (fun u => (u.setAttention false).answer 16#8 .done))
  | _ => .next (t.answer 16#8 .badValue)

/-! ### Counts -/

/-- A neighbour record with its counter gaps at 0 (R81, R159). -/
def Neighbour.clearGaps (n : Neighbour) : Neighbour := { n with gaps := 0#8 }

/-- The counts of R159 at 0. -/
def State.zeroCounts (s : State) : State :=
  { s with
    zone := { s.zone with earlyTakes := 0#16 }
    sensing := { s.sensing with qualifyFail := 0#16 }
    handoff :=
      { s.handoff with
        unmatched := 0#16, discarded := 0#16, up := s.handoff.up.clearGaps, down := s.handoff.down.clearGaps }
    slip := { s.slip with samples := 0#16, rejected := 0#16 }
    mill :=
      { s.mill with
        rxErrors := 0#16, overlong := 0#16, unknownKinds := 0#16, txErrors := 0#16, txOverflows := 0#16 } }

/-- CLEAR COUNTS of a block (R159, R157, R158). -/
def execClearCounts (dt : Nat) (params : List Byte) (s : State) : Host.Outcome State Fault Refusal :=
  let t := s.elapse dt
  match params with
  | [] =>
    .next (t.whenAllowed 20#8 (t.startup.station != .stopped) (fun u => u.zeroCounts.answer 20#8 .done))
  | _ => .next (t.answer 20#8 .badValue)

/-! ### READ ACTIONS -/

/-- The data of READ ACTIONS: number of records, action-overflow count, the records (R161). -/
def State.readActionsData (s : State) : List Byte :=
  [BitVec.ofNat 8 (s.port.actions.take Config.readActionsMost).length, s.port.overflow]
    ++ (s.port.actions.take Config.readActionsMost).flatMap Action.bytes

/-- READ ACTIONS: up to 8 of the oldest records leave the queue, the overflow count is reset, and the latch is cleared when
the queue is left empty (R161, R162). -/
def State.readActions (s : State) : State :=
  let rest := s.port.actions.drop Config.readActionsMost
  State.answerData
    { s with
      port :=
        { s.port with
          actions := rest, overflow := 0#8, attnLatch := if rest.isEmpty then false else s.port.attnLatch } }
    17#8 .done s.readActionsData

/-- READ ACTIONS of a block (R161, R157, R158). -/
def execReadActions (dt : Nat) (params : List Byte) (s : State) : Host.Outcome State Fault Refusal :=
  let t := s.elapse dt
  match params with
  | [] => .next t.readActions
  | _ => .next (t.answer 17#8 .badValue)

/-! ### READ ZONE -/

/-- The code of an origin (section 9.6.4). -/
def Origin.code : Origin → Byte
  | .bite => 0#8
  | .entry => 1#8
  | .passed => 2#8
  | .lapsed => 3#8

/-- The code of a feature state (section 9.6.4). -/
def FeatureState.code : FeatureState → Byte
  | .travelling => 0#8
  | .due => 1#8
  | .passed => 2#8
  | .overdue => 3#8

/-- A zone record in READ ZONE (section 9.6.4). -/
def FeatureRecord.bytes (z : TravelWord) (r : FeatureRecord) : List Byte :=
  bigEndian 2 r.serial.toNat
    ++ [r.kind.code, tagCode r.tag, r.anon, r.origin.code, r.state.code, flagBit r.learnable 0]
    ++ bigEndian 4 (toMm (r.position z))

/-- An expectation in READ ZONE (section 9.6.4). -/
def Expectation.bytes (e : Expectation) : List Byte :=
  bigEndian 2 e.serial.toNat ++ [e.kind.code, tagCode e.tag]

/-- A bar in READ ZONE (section 9.6.4). -/
def Bar.bytes (b : Bar) : List Byte :=
  bigEndian 2 b.serial.toNat ++ [tagCode b.tag, flagBit b.joined 0]

/-- The data of READ ZONE: the zone records, then the expectation list, or at the entry station the entry list (R163,
section 9.6.4). -/
def State.readZoneData (s : State) : List Byte :=
  [BitVec.ofNat 8 s.zone.queue.length] ++ s.zone.queue.flatMap (FeatureRecord.bytes s.travel.z)
    ++ if s.startup.straps.first then
        [BitVec.ofNat 8 s.entry.bars.length] ++ s.entry.bars.flatMap Bar.bytes
      else
        [BitVec.ofNat 8 s.handoff.expectations.length] ++ s.handoff.expectations.flatMap Expectation.bytes

/-- READ ZONE of a block (R163, R157, R158). -/
def execReadZone (dt : Nat) (params : List Byte) (s : State) : Host.Outcome State Fault Refusal :=
  let t := s.elapse dt
  match params with
  | [] => .next (t.answerData 18#8 .done t.readZoneData)
  | _ => .next (t.answer 18#8 .badValue)

/-! ### READ STATION -/

/-- The code of a station state (section 9.6.5). -/
def StationState.code : StationState → Byte
  | .unset => 0#8
  | .claiming => 1#8
  | .placed => 2#8
  | .tracking => 3#8
  | .parked => 4#8
  | .stopped => 5#8

/-- The code of a detector state (section 9.6.5). -/
def Detector.code : Detector → Byte
  | .dormant => 0#8
  | .armedLow => 1#8
  | .qualRise _ => 2#8
  | .armedHigh => 3#8
  | .qualFall _ => 4#8
  | .waitLow => 5#8

/-- The code of a liveness (section 9.6.5). -/
def Liveness.code : Liveness → Byte
  | .unheard => 0#8
  | .present => 1#8
  | .silent => 2#8

/-- The code of an own-ask phase (section 9.6.5). -/
def OwnAsk.code : OwnAsk → Nat
  | .none => 0
  | .asking => 1
  | .window => 2
  | .dropping => 3

/-- The code of a sample's source (section 9.6.5). -/
def SampleSource.code : SampleSource → Byte
  | .take => 1#8
  | .exit => 2#8

/-- The code of a sample's outcome (section 9.6.5). -/
def SampleOutcome.code : SampleOutcome → Byte
  | .accepted => 0#8
  | .clamped => 1#8
  | .rejectedZero => 2#8
  | .rejectedBand => 3#8

/-- A signed field of `n` bytes in two's complement (section 9.6.5). -/
def signedBytes (n : Nat) (v : Int) : List Byte := bigEndian n (v % (256 ^ n : Nat)).toNat

/-- The strap values byte (section 9.6.5). -/
def strapsByte (p : Straps) : Byte :=
  flagBit p.first 0 ||| flagBit p.last 1 ||| flagBit p.rate0 2 ||| flagBit p.rate1 3

/-- The last CLAIM heard: position and flags, 0 for none (section 9.6.5). -/
def claimHeardBytes : Option ClaimHeard → List Byte
  | none => [0#8, 0#8]
  | some c => [BitVec.ofNat 8 c.position, flagBit c.first 0 ||| flagBit c.last 1]

/-- The last-sample record, bytes 32 to 49 (section 9.6.5). -/
def sampleBytes : Option Sample → List Byte
  | none => List.replicate 18 0#8
  | some m =>
    [m.source.code] ++ bigEndian 2 m.serial.toNat ++ bigEndian 2 m.rollTravel ++ signedBytes 8 (m.measured.getD 0)
      ++ [m.outcome.code] ++ signedBytes 2 m.step ++ bigEndian 2 m.codeAfter

/-- The countdown remaining in whole ms, rounded up; 0 when it is not running (R51). -/
def State.inhibitRemaining (s : State) : Nat :=
  match s.sensing.inhibit with
  | none => 0
  | some deadline => (deadline - s.now + 999) / 1000

/-- A neighbour record in READ STATION (section 9.6.5). -/
def Neighbour.bytes (kept : Bool) (n : Neighbour) : List Byte :=
  if kept then
    [1#8, n.liveness.code, (n.code.map (fun c => c.setWidth 8)).getD 255#8,
      (n.counter.map (fun c => c.setWidth 8)).getD 255#8, n.gaps]
      ++ bigEndian 2 (takeRefSerial n.lastTake).toNat ++ [takeRefKind n.lastTake, flagBit n.silence.isSome 0]
  else List.replicate 9 0#8

/-- The own-ask phases, two bits a line (section 9.6.5). -/
def askPhases (x : Eight TrainLine) : Nat :=
  x.l0.ask.code + 4 * x.l1.ask.code + 16 * x.l2.ask.code + 64 * x.l3.ask.code + 256 * x.l4.ask.code
    + 1024 * x.l5.ask.code + 4096 * x.l6.ask.code + 16384 * x.l7.ask.code

/-- The ready tags, oldest first, 255 in each place beyond their number (section 9.6.5). -/
def readyBytes (l : List SetTag) : List Byte :=
  (l.map (fun t => tagCode (some t)) ++ List.replicate Config.readyCapacity 255#8).take Config.readyCapacity

/-- Bytes 0 to 27: identity and travel (section 9.6.5). -/
def State.identityData (s : State) : List Byte :=
  [s.startup.station.code, BitVec.ofNat 8 s.startup.position, strapsByte s.startup.straps]
    ++ claimHeardBytes s.startup.lastClaim ++ bigEndian 6 s.travel.w.toNat ++ bigEndian 6 s.travel.z.toNat
    ++ bigEndian 2 s.travel.r ++ bigEndian 3 s.travel.aLast ++ bigEndian 2 s.travel.tp ++ bigEndian 2 s.stripSpeed
    ++ bigEndian 2 s.slip.code

/-- Bytes 28 to 60: learning, sensing and condition (section 9.6.5). -/
def State.learningData (s : State) : List Byte :=
  bigEndian 2 s.slip.samples.toNat ++ bigEndian 2 s.slip.rejected.toNat ++ sampleBytes s.slip.last
    ++ [s.sensing.load.code, s.sensing.exit.code, flagBit s.sensing.inhibit.isSome 0]
    ++ bigEndian 2 s.inhibitRemaining ++ bigEndian 2 s.sensing.qualifyFail.toNat
    ++ [BitVec.ofNat 8 s.conditionCode, flagBit s.zone.overdueFlag 0, flagBit s.lines.hostTrip 0, s.lines.signals]

/-- Bytes 61 to 83: neighbours and train lines (section 9.6.5). -/
def State.neighbourData (s : State) : List Byte :=
  s.handoff.up.bytes s.keepsUp ++ s.handoff.down.bytes s.keepsDown
    ++ [s.copies, s.contributions, s.foreignAsks] ++ bigEndian 2 (askPhases s.lines.line)

/-- Bytes 84 to 107: ready list, port and counts (section 9.6.5). -/
def State.portData (s : State) : List Byte :=
  [BitVec.ofNat 8 s.port.ready.length] ++ readyBytes s.port.ready
    ++ [BitVec.ofNat 8 s.port.actions.length, s.port.overflow, flagBit s.port.attnLatch 0 ||| flagBit s.port.attnEnable 1]
    ++ bigEndian 2 s.zone.earlyTakes.toNat ++ bigEndian 2 s.handoff.unmatched.toNat
    ++ bigEndian 2 s.handoff.discarded.toNat ++ bigEndian 2 s.mill.rxErrors.toNat ++ bigEndian 2 s.mill.overlong.toNat
    ++ bigEndian 2 s.mill.unknownKinds.toNat ++ bigEndian 2 s.mill.txErrors.toNat
    ++ bigEndian 2 s.mill.txOverflows.toNat

/-- The 108 bytes of READ STATION (R164, section 9.6.5). -/
def State.readStationData (s : State) : List Byte :=
  s.identityData ++ s.learningData ++ s.neighbourData ++ s.portData

/-- READ STATION of a block (R164, R157, R158). -/
def execReadStation (dt : Nat) (params : List Byte) (s : State) : Host.Outcome State Fault Refusal :=
  let t := s.elapse dt
  match params with
  | [] => .next (t.answerData 19#8 .done t.readStationData)
  | _ => .next (t.answer 19#8 .badValue)

end Sys2Proof.Machine
end

