-- ==== Sys2Proof/Machine/Dispatch.lean ====
section
/-!
DEFINITION. The one match from a command to its meaning.
-/

namespace Sys2Proof.Machine

/-- The command's effect on everything but the queue of waiting commands. -/
def exec (i : Instr) (s : State) : Host.Outcome State Fault Refusal :=
  match i with
  | .hardwareReset straps chainIn => Sys2Proof.Machine.execHardwareReset straps chainIn s
  | .encoderPulse dt => Sys2Proof.Machine.execEncoderPulse dt s
  | .stallExpiry => Sys2Proof.Machine.execStallExpiry s
  | .loadEdge dt level => Sys2Proof.Machine.execLoadEdge dt level s
  | .exitEdge dt level => Sys2Proof.Machine.execExitEdge dt level s
  | .qualificationExpiry input => Sys2Proof.Machine.execQualificationExpiry input s
  | .joinStrobe dt => Sys2Proof.Machine.execJoinStrobe dt s
  | .biteInhibitExpiry => Sys2Proof.Machine.execBiteInhibitExpiry s
  | .strobeEnd => Sys2Proof.Machine.execStrobeEnd s
  | .siginChange dt input level => Sys2Proof.Machine.execSiginChange dt input level s
  | .chainInRise change => Sys2Proof.Machine.execChainInRise change s
  | .startOfFrame dt => Sys2Proof.Machine.execStartOfFrame dt s
  | .attempt dt => Sys2Proof.Machine.execAttempt dt s
  | .frameSent dt => Sys2Proof.Machine.execFrameSent dt s
  | .arbitrationLost dt => Sys2Proof.Machine.execArbitrationLost dt s
  | .bitError dt bit => Sys2Proof.Machine.execBitError dt bit s
  | .frameInvalid dt bits => Sys2Proof.Machine.execFrameInvalid dt bits s
  | .claimReceived dt arb position flags => Sys2Proof.Machine.execClaimReceived dt arb position flags s
  | .offerReceived dt arb serial kind tag => Sys2Proof.Machine.execOfferReceived dt arb serial kind tag s
  | .takeReceived dt arb serial kind anon age => Sys2Proof.Machine.execTakeReceived dt arb serial kind anon age s
  | .passReceived dt arb serial tag flags age => Sys2Proof.Machine.execPassReceived dt arb serial tag flags age s
  | .lapseReceived dt arb serial tag flags overrun age => Sys2Proof.Machine.execLapseReceived dt arb serial tag flags overrun age s
  | .bindReceived dt arb serial kind tag anon => Sys2Proof.Machine.execBindReceived dt arb serial kind tag anon s
  | .paceReceived dt arb head serial kind => Sys2Proof.Machine.execPaceReceived dt arb head serial kind s
  | .raiseReceived dt arb mask => Sys2Proof.Machine.execRaiseReceived dt arb mask s
  | .vetoReceived dt arb mask => Sys2Proof.Machine.execVetoReceived dt arb mask s
  | .askReceived dt arb mask => Sys2Proof.Machine.execAskReceived dt arb mask s
  | .dropReceived dt arb mask => Sys2Proof.Machine.execDropReceived dt arb mask s
  | .paceTimerExpiry => Sys2Proof.Machine.execPaceTimerExpiry s
  | .silenceTimerExpiry side => Sys2Proof.Machine.execSilenceTimerExpiry side s
  | .claimRepeatExpiry => Sys2Proof.Machine.execClaimRepeatExpiry s
  | .vetoWindowExpiry line => Sys2Proof.Machine.execVetoWindowExpiry line s
  | .nullBlock dt => Sys2Proof.Machine.execNullBlock dt s
  | .unknownCommand dt code => Sys2Proof.Machine.execUnknownCommand dt code s
  | .configure dt params => Sys2Proof.Machine.execConfigure dt params s
  | .close dt params => Sys2Proof.Machine.execClose dt params s
  | .announce dt params => Sys2Proof.Machine.execAnnounce dt params s
  | .withdraw dt params => Sys2Proof.Machine.execWithdraw dt params s
  | .ready dt params => Sys2Proof.Machine.execReady dt params s
  | .unready dt params => Sys2Proof.Machine.execUnready dt params s
  | .trip dt params => Sys2Proof.Machine.execTrip dt params s
  | .clearTrip dt params => Sys2Proof.Machine.execClearTrip dt params s
  | .signal dt params => Sys2Proof.Machine.execSignal dt params s
  | .park dt params => Sys2Proof.Machine.execPark dt params s
  | .resume dt params => Sys2Proof.Machine.execResume dt params s
  | .clearTrack dt params => Sys2Proof.Machine.execClearTrack dt params s
  | .inhibit dt params => Sys2Proof.Machine.execInhibit dt params s
  | .slip dt params => Sys2Proof.Machine.execSlip dt params s
  | .attnEnable dt params => Sys2Proof.Machine.execAttnEnable dt params s
  | .attnDisable dt params => Sys2Proof.Machine.execAttnDisable dt params s
  | .readActions dt params => Sys2Proof.Machine.execReadActions dt params s
  | .readZone dt params => Sys2Proof.Machine.execReadZone dt params s
  | .readStation dt params => Sys2Proof.Machine.execReadStation dt params s
  | .clearCounts dt params => Sys2Proof.Machine.execClearCounts dt params s
  | .lineIdle dt => Sys2Proof.Machine.execLineIdle dt s
  | .blockCheckFailed dt bytes => Sys2Proof.Machine.execBlockCheckFailed dt bytes s

end Sys2Proof.Machine
end

