-- ==== Sys2Proof/Machine/Step.lean ====
section
/-!
DEFINITION. One step: the command that waits longest is carried out. The part fetches no instruction; commands come from
outside, and `pending` is the queue in which they wait (log entries 3 and 17).
-/

namespace Sys2Proof.Machine

/-- One step: the front command of the queue is carried out with the queue's rest; on an empty queue the part idles, because
it does no work of its own accord (section 1.3; log entry 3). -/
def step (s : State) : Host.Outcome State Fault Refusal :=
  match s.pending with
  | [] => .next s
  | c :: rest => exec c { s with pending := rest }

/-- The state with a command put at the front of its queue. -/
def State.withFront (s : State) (c : Instr) : State := { s with pending := c :: s.pending }

/-- The state with the command that a table word spells at the front of its queue; unchanged where the word spells none. -/
def State.withFetchWord (s : State) (nbits w : Nat) : State :=
  match decodeTableWord nbits w with
  | none => s
  | some c => s.withFront c

end Sys2Proof.Machine
end

