-- ==== Sys2Proof/Safety.lean ====
section
/-!
DEFINITION. What holds of the part between any two events: the capacities, the ranges, the states' own conditions and the
agreement of the train lines, in the terms that claims use; the moves between station states; and a safe run.
-/

namespace Sys2Proof.Machine

/-! ### Collections -/

/-- No collection holds more than its capacity, and at most one PACE has a place (R3, R54, R57, R104, R142, R160). -/
structure State.WithinCapacity (s : State) : Prop where
  zone : s.zone.queue.length ≤ Config.zoneCapacity
  expectations : s.handoff.expectations.length ≤ Config.expectationCapacity
  ready : s.port.ready.length ≤ Config.readyCapacity
  bars : s.entry.bars.length ≤ Config.entryCapacity
  places : s.mill.queue.length ≤ Config.placeCapacity
  actions : s.port.actions.length ≤ Config.actionCapacity
  onePace : (s.mill.queue.filter (fun f => f.body.isPace)).length ≤ 1

/-- No two records of a zone queue have the same kind and the same nonzero serial (R3). -/
def distinctRecords (queue : List FeatureRecord) : Prop :=
  queue.Pairwise (fun a b => a.kind = b.kind → a.serial = b.serial → a.serial = 0#16)

/-- No two expectations have the same kind and the same nonzero serial (R54). -/
def distinctExpectations (l : List Expectation) : Prop :=
  l.Pairwise (fun a b => a.kind = b.kind → a.serial = b.serial → a.serial = 0#16)

/-- The collections hold no duplicate that a rule forbids (R3, R54, R57, R104). -/
structure State.Distinct (s : State) : Prop where
  zone : distinctRecords s.zone.queue
  expectations : distinctExpectations s.handoff.expectations
  ready : s.port.ready.Nodup
  bars : (s.entry.bars.map Bar.serial).Nodup

/-- No record's position exceeds that of the record ahead of it (R3). -/
def inOrder (z : TravelWord) (queue : List FeatureRecord) : Prop :=
  queue.Pairwise (fun a b => b.position z ≤ a.position z)

/-- Every record stands at or below the position ceiling (R30). -/
def belowCeiling (z : TravelWord) (queue : List FeatureRecord) : Prop :=
  ∀ r ∈ queue, r.position z ≤ Config.positionCeiling

/-- A TAIL carries no set tag, a record with a nonzero serial carries no anonymous tag, and only a HEAD of origin BITE that
is not OVERDUE is learnable (R1). -/
structure FeatureRecord.Proper (r : FeatureRecord) : Prop where
  tail : r.kind = .tail → r.tag = none
  named : r.serial ≠ 0#16 → r.anon = 0#8
  learnable : r.learnable = true → r.kind = .head ∧ r.origin = .bite ∧ r.state ≠ .overdue
  passed : r.state = .passed → r.kind = .join
  due : r.state = .due ∨ r.state = .overdue → r.kind ≠ .join

/-- Every record of the zone queue is proper (R1, section 1.4). -/
def State.ProperRecords (s : State) : Prop := ∀ r ∈ s.zone.queue, r.Proper

/-! ### Ranges -/

/-- Every numeric item of the configuration record is in its range (R152, R153). -/
structure Configuration.InRange (c : Configuration) (last : Bool) : Prop where
  zoneLength : 500 ≤ c.zoneLength ∧ c.zoneLength ≤ zoneLengthMost last
  pitch : 1024 ≤ c.pitch ∧ c.pitch ≤ 4096000
  initialSlip : c.initialSlip ≤ 16384
  gain : c.gain ≤ 16
  qualify : 100 ≤ c.qualify ∧ c.qualify ≤ 50000
  lateMargin : 50 ≤ c.lateMargin ∧ c.lateMargin ≤ 5000
  earlyWindow : c.earlyWindow ≤ 5000
  pacePeriod : 5 ≤ c.pacePeriod ∧ c.pacePeriod ≤ 100
  silencePeriods : 2 ≤ c.silencePeriods ∧ c.silencePeriods ≤ 15
  strobeWidth : 10 ≤ c.strobeWidth ∧ c.strobeWidth ≤ 10000

/-- The configuration, the slip code and the travel counter are in their ranges (R94, R152, section 2.1). -/
structure State.InRange (s : State) : Prop where
  config : s.startup.config.InRange s.startup.straps.last
  slip : s.slip.code ≤ Config.slipMax
  remainder : s.travel.r < 65536
  advance : s.travel.aLast ≤ 5120001
  interval : 1 ≤ s.travel.tp ∧ s.travel.tp ≤ Config.stalled

/-- While features are tracked the thresholds are those of the configuration record, whose margins are at most half the
zone length (R29, R155). -/
def State.Closed (s : State) : Prop :=
  s.startup.station = .tracking ∨ s.startup.station = .parked →
    s.zone.thresholds = s.startup.config.thresholds
      ∧ s.startup.config.lateMargin ≤ s.startup.config.zoneLength / 2
      ∧ s.startup.config.earlyWindow ≤ s.startup.config.zoneLength / 2

/-! ### Station states -/

/-- What a station state says of position and CHAIN-OUT (R12, R146, R149). -/
structure State.Stationed (s : State) : Prop where
  unset : s.startup.station = .unset → s.startup.position = 0 ∧ s.startup.chainOut = false
  claiming : s.startup.station = .claiming → s.startup.chainOut = false
  placed : s.startup.station.operating = true → s.startup.chainOut = true
  position : s.startup.station = .claiming ∨ s.startup.station.operating = true →
    1 ≤ s.startup.position ∧ s.startup.position ≤ 8
  first : s.startup.straps.first = true → s.startup.station ≠ .unset ∧ s.startup.position = 1

/-- Outside TRACKING and STOPPED nothing is tracked, sensed or expected (R11, R13, R15, R21, R37, R46). -/
structure State.Idle (s : State) : Prop where
  zone : s.zone.queue = []
  expectations : s.handoff.expectations = []
  load : s.sensing.load = .dormant
  exit : s.sensing.exit = .dormant
  inhibit : s.sensing.inhibit = none
  stall : s.travel.stallRunning = false

/-- What holds in STOPPED: every timer of R14 is stopped, the detectors are DORMANT, and nothing waits to be sent. -/
structure State.Silenced (s : State) : Prop where
  load : s.sensing.load = .dormant
  exit : s.sensing.exit = .dormant
  inhibit : s.sensing.inhibit = none
  stall : s.travel.stallRunning = false
  claimRepeat : s.startup.claimRepeat = none
  pace : s.handoff.paceTimer = none
  up : s.handoff.up.silence = none
  down : s.handoff.down.silence = none
  windows : s.lines.line.mask (fun l => l.windowEnd.isSome) = 0#8
  places : s.mill.queue = []
  slots : s.mill.slots = { raise := Slot.empty, veto := Slot.empty, ask := Slot.empty, drop := Slot.empty }
  flight : s.mill.flight = none

/-- Outside TRACKING a station is idle, or in STOPPED silenced; the EXIT detector is in use at the exit station alone
(R13, R14, R37). -/
structure State.Quiet (s : State) : Prop where
  idle : s.startup.station ≠ .tracking → s.startup.station ≠ .stopped → s.Idle
  silenced : s.startup.station = .stopped → s.Silenced
  exit : s.startup.straps.last = false → s.sensing.exit = .dormant

/-- The moves between station states that an event other than hardware reset can make (R12). -/
def moves (c : Instr) (a b : StationState) : Bool :=
  match a, b with
  | .unset, .claiming => match c with | .claimReceived _ _ _ _ => true | _ => false
  | .unset, .stopped => match c with | .claimReceived _ _ _ _ => true | _ => false
  | .claiming, .placed => match c with | .frameSent _ => true | _ => false
  | .placed, .tracking => match c with | .close _ _ => true | _ => false
  | .tracking, .parked => match c with | .park _ _ => true | _ => false
  | .parked, .tracking => match c with | .resume _ _ => true | _ => false
  | .placed, .stopped => c.content.isSome
  | .tracking, .stopped => c.content.isSome
  | .parked, .stopped => c.content.isSome
  | _, _ => false

/-! ### Train lines -/

/-- The lines of a RAISE of this station that is waiting or being sent (R117, R120). -/
def State.raising (s : State) : LineMask :=
  s.mill.slots.raise.mask |||
    match s.mill.flight with
    | some { source := .slot .raise m _, wire := _ } => m
    | _ => 0#8

/-- In PLACED, TRACKING and PARKED the copy of a line with a set contribution is high, except while a RAISE for that line
from this station is waiting or being sent (R117). -/
def State.LinesHeld (s : State) : Prop :=
  s.startup.station.operating = true → s.contributions &&& ~~~(s.copies ||| s.raising) = 0#8

/-- Outside STOPPED every own contribution is the OR of its sources (R10, R11, R118, R119). -/
def State.LinesFollow (s : State) : Prop :=
  s.startup.station ≠ .stopped → s.contributions = s.sources

/-! ### Attention -/

/-- While the action queue holds a record, the latch is set (R162). -/
def State.AttentionKept (s : State) : Prop := s.port.actions ≠ [] → s.port.attnLatch = true

/-! ### A safe run -/

/-- Everything above that holds between any two events. -/
structure State.Safe (s : State) : Prop where
  capacity : s.WithinCapacity
  distinct : s.Distinct
  proper : s.ProperRecords
  range : s.InRange
  closed : s.Closed
  stationed : s.Stationed
  quiet : s.Quiet
  held : s.LinesHeld
  follow : s.LinesFollow
  attention : s.AttentionKept

/-- A run of n steps reaches only safe states. -/
def safeRun : Nat → State → Prop
  | 0, s => s.Safe
  | n + 1, s => s.Safe ∧ ∀ t, step s = .next t → safeRun n t

end Sys2Proof.Machine
end

