-- ==== Sys2Proof/Certificates/Slice0/Obligations.lean ====
section
/-!
DEFINITION. The statements for the provers. What they say of times, lines, records, formats and tables is written here from
the spec's words, beside the model's own meanings.
-/

namespace Sys2Proof.Machine

/-! ### The spec's words -/

/-- The state at the end of a valid frame of another station, before the frame acts: `dt` µs on, the receiver in HUNT with an
idle count of six (R138). -/
def State.delivered (s : State) (dt : Nat) : State :=
  { s with now := s.now + dt, mill := { s.mill with rx := .hunt, idle := 6 } }

/-- The state after a command that is answered without data and has no other effect: `dt` µs on, with a held response of four
bytes that sum to 0 (R156, R157, section 9.6.2). -/
def State.answered (s : State) (dt : Nat) (code : Byte) (a : Answer) : State :=
  { s with now := s.now + dt, port := { s.port with held := [4#8, code, a.code, 0#8 - (4#8 + code + a.code)] } }

/-- The parameter bytes of each command code (R158). -/
def parameterBytes : Nat → Nat
  | 1 => 5
  | 3 => 4
  | 4 => 2
  | 5 => 1
  | 6 => 1
  | 9 => 2
  | 13 => 2
  | 14 => 2
  | _ => 0

/-- The station states in which each command code is taken; `first` is the FIRST strap (R158). -/
def takenIn (code : Nat) (st : StationState) (first : Bool) : Bool :=
  match code with
  | 1 => st == .unset || st == .claiming || st == .placed
  | 2 => st == .placed
  | 3 => first && (st == .tracking || st == .parked)
  | 4 => first && (st == .tracking || st == .parked)
  | 5 => st == .placed || st == .tracking || st == .parked
  | 6 => st == .placed || st == .tracking || st == .parked
  | 7 => st == .placed || st == .tracking || st == .parked
  | 8 => st == .placed || st == .tracking || st == .parked
  | 9 => st == .placed || st == .tracking || st == .parked
  | 10 => st == .tracking
  | 11 => st == .parked
  | 12 => st == .tracking || st == .parked
  | 13 => st == .tracking
  | 14 => st == .tracking || st == .parked
  | 15 => st != .stopped
  | 16 => st != .stopped
  | 17 => true
  | 18 => true
  | 19 => true
  | 20 => st != .stopped
  | _ => false

/-- The clock, the pins, the start-up unit, STROBE and the waiting commands stand; `dt` µs have passed. -/
def State.sameOutside (s t : State) (dt : Nat) : Prop :=
  t.now = s.now + dt ∧ t.pins = s.pins ∧ t.startup = s.startup ∧ t.strobe = s.strobe ∧ t.pending = s.pending

/-- Travel, sensing, the slip learner and the entry list stand. -/
def State.sameStand (s t : State) : Prop :=
  t.travel = s.travel ∧ t.sensing = s.sensing ∧ t.slip = s.slip ∧ t.entry = s.entry

/-- All of the mill line but the transmit queue, the slots and the tx-overflow count stands. -/
def MillLine.sameReceiver (m n : MillLine) : Prop :=
  n.rx = m.rx ∧ n.ownTail = m.ownTail ∧ n.idle = m.idle ∧ n.sof = m.sof ∧ n.flight = m.flight
    ∧ n.rxErrors = m.rxErrors ∧ n.overlong = m.overlong ∧ n.unknownKinds = m.unknownKinds ∧ n.txErrors = m.txErrors

/-- The actions queue after posting records that find room; the attention latch is set by any of them (R160, R162). -/
def Port.posted (p : Port) (as : List Action) : Port :=
  { p with actions := p.actions ++ as, attnLatch := p.attnLatch || !as.isEmpty }

/-- The port after one posted action: the action stands youngest in a queue of fewer than 16; otherwise it is discarded and the
action-overflow count rises by one, up to 255. The attention latch is set in both cases (R160, R162). -/
def Port.taking (p : Port) (a : Action) : Port :=
  if p.actions.length < 16 then { p with actions := p.actions ++ [a], attnLatch := true }
  else { p with overflow := BitVec.ofNat 8 (min 255 (p.overflow.toNat + 1)), attnLatch := true }

/-- The distance of a record into the zone in whole millimetres, saturated at 65,535 (R2, R31). -/
def millimetres (z : TravelWord) (r : FeatureRecord) : BitVec 16 := BitVec.ofNat 16 (min 65535 (r.position z / 1024000))

/-- The HANDED action of a record in one of the four classes 0 DIRECT, 1 MATCHED, 2 IMPLIED and 3 REPORTED (R76). -/
def handed (z : TravelWord) (cls : BitVec 2) (early : Bool) (r : FeatureRecord) : Action :=
  { kind := .handed, serial := r.serial, feature := r.kind.code, tag := tagCode r.tag, early := early, cls := cls,
    value := millimetres z r }

/-- The SKIPPED action of an expectation (R67). -/
def skipped (e : Expectation) : Action :=
  { kind := .skipped, serial := e.serial, feature := e.kind.code, tag := tagCode e.tag }

/-- The ready flag that a tag gives a BITE or a SWITCH, from the ready list as it stands (R59). -/
def Port.flagFor (p : Port) (tag : Option SetTag) : ReadyFlag :=
  if tag = none then .na else if ∃ t ∈ p.ready, tag = some t then .yes else .no

/-- The ready list without the tag of a posted BITE or SWITCH (R59). -/
def Port.without (p : Port) (tag : Option SetTag) : List SetTag := p.ready.filter (fun t => some t != tag)

/-- What the part keeps for one train line, with whether the line stands in each of the four slots (R117, R120). -/
structure LineView where
  line : TrainLine
  raise : Bool
  veto : Bool
  ask : Bool
  drop : Bool
  deriving DecidableEq, Repr

/-- The view of one line. -/
def State.view (s : State) (n : Fin 8) : LineView where
  line := s.lines.line.get n
  raise := s.mill.slots.raise.mask.getLsbD n
  veto := s.mill.slots.veto.mask.getLsbD n
  ask := s.mill.slots.ask.mask.getLsbD n
  drop := s.mill.slots.drop.mask.getLsbD n

/-- The own ask of a line ends in whatever phase it stands (R121). -/
def LineView.endAsk (v : LineView) : LineView where
  line := { v.line with ask := .none, windowEnd := none }
  raise := v.raise
  veto := v.veto
  ask := v.ask && v.line.ask != .asking
  drop := v.drop && v.line.ask != .dropping

/-- The own contribution of a line rises (R121). -/
def LineView.rises (v : LineView) : LineView :=
  if v.line.copy then
    { v.endAsk with
      line := { v.endAsk.line with contribution := true }
      veto := v.veto || v.line.foreignAsk }
  else { v with line := { v.line with contribution := true }, raise := true }

/-- An ASK for the line is merged and the own ask becomes ASKING (R122, R123). -/
def LineView.asks (v : LineView) : LineView :=
  { v with line := { v.line with ask := .asking, windowEnd := none }, ask := true }

/-- The own contribution of a line falls (R122). -/
def LineView.falls (v : LineView) : LineView :=
  let w : LineView := { v with line := { v.line with contribution := false }, raise := false, veto := false }
  if v.line.copy = true ∧ v.line.ask = .none then w.asks else w

/-- The own contribution of a line formed afresh from its sources, in PLACED, TRACKING or PARKED (R121, R122). -/
def LineView.formed (source : Bool) (v : LineView) : LineView :=
  if source = true ∧ v.line.contribution = false then v.rises
  else if source = false ∧ v.line.contribution = true then v.falls
  else v

/-- A RAISE or a VETO of another station is received for the line (R125). -/
def LineView.held (v : LineView) : LineView :=
  { v.endAsk with line := { v.endAsk.line with copy := true, foreignAsk := false }, raise := false, veto := false }

/-- An ASK of another station is received for the line (R126). -/
def LineView.asked (v : LineView) : LineView :=
  { v with line := { v.line with foreignAsk := true }, veto := v.veto || v.line.contribution }

/-- A DROP of another station is received for the line (R127). -/
def LineView.dropped (v : LineView) : LineView where
  line := { v.line with copy := false, foreignAsk := false, ask := .none, windowEnd := none }
  raise := v.raise || v.line.contribution
  veto := false
  ask := false
  drop := false

/-- A train-line frame of this station is sent for the line; `windowEnd` is the end of a veto window that starts now
(R123). -/
def LineView.sent (windowEnd : Nat) (kind : LineKind) (v : LineView) : LineView :=
  match kind with
  | .raise =>
    let w : LineView := { v with line := { v.line with copy := true, foreignAsk := false }, raise := false }
    if v.line.contribution = false ∧ v.line.ask = .none then w.asks else w
  | .ask =>
    if v.line.ask = .asking then
      { v with line := { v.line with ask := .window, windowEnd := some windowEnd }, ask := false }
    else { v with ask := false }
  | .veto => { v with line := { v.line with foreignAsk := false }, veto := false }
  | .drop =>
    { v with
      line := { v.line with copy := false, foreignAsk := false, ask := .none, windowEnd := none }
      raise := v.raise || v.line.contribution
      drop := false }

/-- The line still calls for the unsent frame (the table of R120). -/
def LineView.calls (kind : LineKind) (v : LineView) : Bool :=
  match kind with
  | .raise => v.line.contribution && !v.line.copy
  | .ask => v.line.ask == .asking
  | .veto => v.line.contribution && v.line.foreignAsk
  | .drop => v.line.ask == .dropping

/-- The line returns to its slot while it calls for the unsent frame (R120). -/
def LineView.returned (kind : LineKind) (v : LineView) : LineView :=
  match kind with
  | .raise => { v with raise := v.raise || v.calls .raise }
  | .ask => { v with ask := v.ask || v.calls .ask }
  | .veto => { v with veto := v.veto || v.calls .veto }
  | .drop => { v with drop := v.drop || v.calls .drop }

/-- The lines of an unsent frame of the mask `m` return to the slot of its kind, no other slot moves, and the slot takes back
the frame's filling time when it stood empty and otherwise keeps the earlier of the two (R120, R142). -/
def State.linesReturned (s t : State) (kind : LineKind) (m : LineMask) (filledAt : Nat) : Prop :=
  (∀ n : Fin 8, t.view n = if m.getLsbD n = true then (s.view n).returned kind else s.view n)
    ∧ (∀ other : LineKind, other ≠ kind → t.mill.slots.get other = s.mill.slots.get other)
    ∧ ((∀ n : Fin 8, m.getLsbD n = true → (s.view n).calls kind = false) → t.mill.slots = s.mill.slots)
    ∧ ((∃ n : Fin 8, m.getLsbD n = true ∧ (s.view n).calls kind = true) →
        (t.mill.slots.get kind).filledAt
          = if (s.mill.slots.get kind).mask = 0#8 then filledAt else min (s.mill.slots.get kind).filledAt filledAt)

/-- Only the train lines' items and their slots may differ. -/
def State.onlyLines (s t : State) : Prop :=
  t = { s with lines := { s.lines with line := t.lines.line }, mill := { s.mill with slots := t.mill.slots } }

/-- The filling time of a slot over an event at the moment `now` that merges lines into it or removes lines from it: a slot
filled from empty has this moment, and a slot in which a line has stood throughout keeps its own (R120, R142). -/
def Slot.timed (now : Nat) (before after : Slot) : Prop :=
  after.mask ≠ 0#8 →
    (before.mask = 0#8 → after.filledAt = now)
      ∧ (before.mask &&& after.mask ≠ 0#8 → after.filledAt = before.filledAt)
      ∧ (after.filledAt = now ∨ after.filledAt = before.filledAt)

/-- The filling times of the four slots over an event (R142). -/
def State.slotsTimed (s t : State) : Prop :=
  ∀ kind : LineKind, Slot.timed t.now (s.mill.slots.get kind) (t.mill.slots.get kind)

/-- In PLACED, TRACKING or PARKED the contributions of the lines of `concerned` are formed afresh and the exchange follows
for them; every other line stands with its slots, and so do the host flags (R10, R11, R117 to R122, R142). -/
def State.linesFormed (s t : State) (concerned : LineMask) : Prop :=
  (∀ n : Fin 8,
      t.view n = if concerned.getLsbD n = true then (s.view n).formed (t.sources.getLsbD n) else s.view n)
    ∧ s.slotsTimed t ∧ t.lines.hostTrip = s.lines.hostTrip ∧ t.lines.signals = s.lines.signals

/-- The THREAD contribution is formed afresh and no other line moves (R11). -/
def State.threadFollows (s t : State) : Prop := s.linesFormed t 2#8

/-- The serial with which a record enters: 0 for a duplicate (R4). -/
def State.entrySerial (s : State) (r : FeatureRecord) : Serial :=
  if r.serial ≠ 0#16 ∧ ∃ q ∈ s.zone.queue, q.kind = r.kind ∧ q.serial = r.serial then 0#16 else r.serial

/-- The record as the entry procedure enters it: a duplicate with serial 0, and one that would stand ahead of the youngest
with the youngest's entry values (R4, R5). -/
def State.entryRecord (s : State) (r : FeatureRecord) : FeatureRecord :=
  match s.zone.queue.getLast? with
  | none => { r with serial := s.entrySerial r }
  | some y =>
    if y.position s.travel.z < r.position s.travel.z then
      { r with serial := s.entrySerial r, entryW := y.entryW, entryZ := y.entryZ }
    else { r with serial := s.entrySerial r }

/-- The FAULT actions of an entry in their order: SEQUENCE for a duplicate, SEQUENCE for a kind that may not follow the
youngest's, and ZONE_FULL for the front record of a full queue (R4, R6, R7). -/
def State.entryFaults (s : State) (r : FeatureRecord) : List Action :=
  let fault (n : Serial) (k : FeatureKind) (cause : BitVec 16) : Action :=
    { kind := .fault, serial := n, feature := k.code, value := cause }
  (if s.entrySerial r = r.serial then [] else [fault r.serial r.kind 2#16])
    ++ (match s.zone.queue.getLast? with
      | none => []
      | some y =>
        if (r.kind = .head ∧ y.kind ≠ .tail) ∨ (r.kind = .tail ∧ y.kind = .tail) then
          [fault (s.entrySerial r) r.kind 2#16]
        else [])
    ++ (if 6 ≤ s.zone.queue.length then (s.zone.queue.take 1).map (fun q => fault q.serial q.kind 1#16) else [])

/-- What the entry of a feature does to the collections that features share: the record stands youngest in the zone, behind
the others but the front record of a full queue; the frames stand behind the others in the eight places; the actions are
posted in their order, those posted before the entry first and then its FAULTs; the tag has left the ready list; THREAD and,
with a full queue, TRIP are formed afresh, THREAD once, at the end (DEDUCED, log entry 25); travel, the slip learner, the
start-up unit and the waiting commands stand (R4 to R7, R10, R11, R52, R59, R60 to R66, R84, R107, R108). -/
structure State.Entered (s t : State) (r : FeatureRecord) (frames : List QueuedFrame) (tag : Option SetTag)
    (before after : List Action) : Prop where
  zone :
    t.zone
      = { s.zone with
          queue := (if 6 ≤ s.zone.queue.length then s.zone.queue.tail else s.zone.queue) ++ [s.entryRecord r]
          overdueFlag := s.zone.overdueFlag || decide (6 ≤ s.zone.queue.length) }
  mill : t.mill = { s.mill with queue := s.mill.queue ++ frames, slots := t.mill.slots }
  port :
    t.port
      = { s.port with
          ready := s.port.without tag
          actions := s.port.actions ++ before ++ s.entryFaults r ++ after
          attnLatch := true }
  lines : s.linesFormed t (if 6 ≤ s.zone.queue.length then 3#8 else 2#8)
  travel : t.travel = s.travel
  slip : t.slip = s.slip
  startup : t.startup = s.startup
  pins : t.pins = s.pins
  pending : t.pending = s.pending

/-- The OFFER of an entered feature, for a station that is not strapped LAST (R52). -/
def offerFrame (last : Bool) (serial : Serial) (kind : FeatureKind) (tag : Option SetTag) : List QueuedFrame :=
  if last then [] else [{ body := .offer serial kind tag, age := none, flying := false }]

/-- The BITE or TAILOUT of an entered feature (R65, R107, R109). -/
def takeReport (kind : FeatureKind) (serial : Serial) (tag : Option SetTag) (ready : ReadyFlag) (inhibited : Bool)
    (anon : Byte) : Action :=
  { kind := if kind = .head then .bite else .tailout, serial := serial, feature := kind.code, tag := tagCode tag,
    ready := ready, inhibited := inhibited, value := anon.setWidth 16 }

/-- The neighbour records after a valid frame from a position has refreshed one of them at the moment `now` (R80). -/
def State.refreshed (s : State) (arb : Arbitration) (now : Nat) : HandOff :=
  let deadline := now + s.startup.config.silencePeriods * s.startup.config.pacePeriod * 1000
  if s.startup.straps.first = false ∧ arb.position + 1 = s.startup.position then
    { s.handoff with up := { s.handoff.up with liveness := .present, silence := some deadline } }
  else if s.startup.straps.last = false ∧ arb.position = s.startup.position + 1 then
    { s.handoff with down := { s.handoff.down with liveness := .present, silence := some deadline } }
  else s.handoff

/-- The NEIGHBOUR PRESENT action of a record that was SILENT (R80). -/
def State.returnActions (s : State) (arb : Arbitration) : List Action :=
  let present : Action := { kind := .neighbour, cls := 1#2, value := BitVec.ofNat 16 arb.position }
  if s.startup.straps.first = false ∧ arb.position + 1 = s.startup.position then
    if s.handoff.up.liveness = .silent then [present] else []
  else if s.startup.straps.last = false ∧ arb.position = s.startup.position + 1 then
    if s.handoff.down.liveness = .silent then [present] else []
  else []

/-- The state right after the FAULT of an entry into STOPPED has been posted becomes `t`: every timer of R14 is stopped,
qualifications and the countdown have ended, the transmit queue and the slots are empty, and all else stands (R14). -/
def State.stops (s t : State) : Prop :=
  let empty : Slot := { mask := 0#8, filledAt := 0 }
  t = { s with
        startup := { s.startup with station := .stopped, claimRepeat := none }
        travel := { s.travel with stallRunning := false }
        sensing := { s.sensing with load := .dormant, exit := .dormant, inhibit := none }
        handoff :=
          { s.handoff with
            paceTimer := none, up := { s.handoff.up with silence := none }
            down := { s.handoff.down with silence := none } }
        lines := { s.lines with line := t.lines.line }
        mill :=
          { s.mill with
            queue := [], slots := { raise := empty, veto := empty, ask := empty, drop := empty }, flight := none } }
    ∧ ∀ n : Fin 8, t.lines.line.get n = { s.lines.line.get n with windowEnd := none }

/-- The level of a detector has been held for longer than the qualify time at a moment (R41). -/
def State.overdue (s : State) (d : Detector) (moment : Nat) : Prop :=
  match d with
  | .qualRise l => l.time + s.startup.config.qualify < moment
  | .qualFall l => l.time + s.startup.config.qualify < moment
  | _ => False

/-- The moment of the first edge of a detector's qualification in progress, and 0 without one (R37). -/
def edgeMoment (d : Detector) : Nat :=
  match d with
  | .qualRise l => l.time
  | .qualFall l => l.time
  | _ => 0

/-- A condition of the table of R18 holds. -/
def State.condition (s : State) (code : Nat) : Prop :=
  let notReady (tag : Option SetTag) : Prop := tag ≠ none ∧ ∀ t ∈ s.port.ready, tag ≠ some t
  match code with
  | 7 => (s.lines.line.get 0).contribution = true
  | 6 => ∃ r ∈ s.zone.queue, r.state = .overdue
  | 5 => s.startup.station = .parked
  | 4 => s.startup.station = .placed
  | 3 =>
    if s.startup.straps.first then ∃ b ∈ s.entry.bars.head?, notReady b.tag
    else ∃ e ∈ s.handoff.expectations.head?, e.kind ≠ .tail ∧ notReady e.tag
  | 2 => s.sensing.inhibit ≠ none
  | 1 => 12 ≤ s.port.actions.length
  | _ => True

/-- The highest code of R18 whose condition holds. -/
def State.hasCondition (s : State) (code : Nat) : Prop :=
  code ≤ 7 ∧ s.condition code ∧ ∀ higher ≤ 7, code < higher → ¬ s.condition higher

/-! ### The formats of section 9.6 -/

/-- The two bytes of a field, high byte first. -/
def two (v : BitVec 16) : List Byte := [v.extractLsb' 8 8, v.extractLsb' 0 8]

/-- The code of a feature kind. -/
def kindByte (k : FeatureKind) : Byte :=
  match k with
  | .head => 1#8
  | .tail => 2#8
  | .join => 3#8

/-- The code of a set tag. -/
def tagByte (tag : Option SetTag) : Byte :=
  match tag with
  | none => 255#8
  | some t => BitVec.ofNat 8 t.val

/-- A flag as a field. -/
def flagByte (b : Bool) : Byte := if b then 1#8 else 0#8

/-- The response to a command answered DONE: length, command code, response code 0, the data, and the check byte that makes
all bytes sum to 0 (section 9.6.2). -/
def doneResponse (code : Byte) (data : List Byte) : List Byte :=
  let block := [BitVec.ofNat 8 (data.length + 4), code, 0#8] ++ data
  block ++ [0#8 - block.sum]

/-- The eight bytes of an action record (section 9.6.3). -/
def actionBytes (a : Action) : List Byte :=
  let kind : Byte :=
    match a.kind with
    | .bite => 1#8
    | .tailout => 2#8
    | .switch => 3#8
    | .prepare => 4#8
    | .handed => 5#8
    | .skipped => 6#8
    | .bound => 7#8
    | .overdue => 8#8
    | .lapsed => 9#8
    | .exitHead => 10#8
    | .exitTail => 11#8
    | .cut => 12#8
    | .tripOn => 13#8
    | .tripOff => 14#8
    | .neighbour => 15#8
    | .fault => 16#8
  let ready : Nat := match a.ready with | .na => 0 | .no => 1 | .yes => 2
  let flags :=
    ready + 4 * a.inhibited.toNat + 8 * a.early.toNat + 16 * a.estimated.toNat + 32 * a.upEstimated.toNat
      + 64 * a.cls.toNat
  [kind] ++ two a.serial ++ [a.feature, a.tag, BitVec.ofNat 8 flags] ++ two a.value

/-- The twelve bytes of a zone record (section 9.6.4); its position is in whole millimetres (R2). -/
def zoneRecordBytes (z : TravelWord) (r : FeatureRecord) : List Byte :=
  let origin : Byte := match r.origin with | .bite => 0#8 | .entry => 1#8 | .passed => 2#8 | .lapsed => 3#8
  let state : Byte := match r.state with | .travelling => 0#8 | .due => 1#8 | .passed => 2#8 | .overdue => 3#8
  let mm : BitVec 32 := BitVec.ofNat 32 (r.position z / 1024000)
  two r.serial ++ [kindByte r.kind, tagByte r.tag, r.anon, origin, state, flagByte r.learnable]
    ++ two (mm.extractLsb' 16 16) ++ two (mm.extractLsb' 0 16)

/-- The data of READ ZONE (section 9.6.4). -/
def State.zoneData (s : State) : List Byte :=
  [BitVec.ofNat 8 s.zone.queue.length] ++ s.zone.queue.flatMap (zoneRecordBytes s.travel.z)
    ++ (if s.startup.straps.first then
          [BitVec.ofNat 8 s.entry.bars.length]
            ++ s.entry.bars.flatMap (fun b => two b.serial ++ [tagByte b.tag, flagByte b.joined])
        else
          [BitVec.ofNat 8 s.handoff.expectations.length]
            ++ s.handoff.expectations.flatMap (fun e => two e.serial ++ [kindByte e.kind, tagByte e.tag]))

/-- The header byte and the payload of a frame of the eight places, sent from a position with an age stamped (sections 9.2
and 9.6.1). -/
def sentContent (position : Nat) (age : BitVec 16) (body : FrameBody) : List Byte :=
  let header (routine kind : Nat) : Byte := BitVec.ofNat 8 (routine * 128 + (position - 1) * 16 + kind)
  match body with
  | .claim p first last => [header 1 1, BitVec.ofNat 8 p, BitVec.ofNat 8 (first.toNat + 2 * last.toNat)]
  | .offer serial kind tag => [header 1 2] ++ two serial ++ [kindByte kind, tagByte tag]
  | .take serial kind anon => [header 0 3] ++ two serial ++ [kindByte kind, anon] ++ two age
  | .pass serial tag estimated => [header 0 4] ++ two serial ++ [tagByte tag, flagByte estimated] ++ two age
  | .lapse serial tag estimated overrun =>
    [header 0 5] ++ two serial ++ [tagByte tag, flagByte estimated] ++ two (BitVec.ofNat 16 overrun) ++ two age
  | .bind serial kind tag anon => [header 0 6] ++ two serial ++ [kindByte kind, tagByte tag, anon]
  | .pace p code counter last =>
    let lastTake : Serial × Byte := match last with | none => (0#16, 0#8) | some t => (t.serial, kindByte t.kind)
    [header 1 7, BitVec.ofNat 8 ((p - 1) * 32 + code * 4 + counter.toNat)] ++ two lastTake.1 ++ [lastTake.2]

/-- The frame is one of the routine class (section 9.6.1). -/
def routineFrame (body : FrameBody) : Bool :=
  match body with
  | .claim _ _ _ => true
  | .offer _ _ _ => true
  | .pace _ _ _ _ => true
  | _ => false

/-- The verdict on a frame that ended on whole bytes, in the order of the checks of R139. -/
def bytesVerdict (bytes : List Byte) : Verdict :=
  let body := bytes.take (bytes.length - 2)
  let crc := crcOf (bytesBits body)
  let kind := (bytes.headD 0#8).toNat % 16
  let payload := body.drop 1
  let length : Nat :=
    match kind with
    | 1 => 2 | 2 => 4 | 3 => 6 | 4 => 6 | 5 => 8 | 6 => 5 | 7 => 4 | _ => 1
  if bytes.length < 3 then .tooShort
  else if bytes.drop (bytes.length - 2) ≠ two crc then .crcFailed
  else if kind = 0 ∨ 12 ≤ kind then .unknownKind
  else if payload.length ≠ length then .badLength
  else .valid (bytes.headD 0#8) payload

/-- The line bits after the start of frame that carry content bits, with their stuff bits (R134). -/
def stuffed (content : List Bool) : List Bool := (stuffFrom true 0 (false :: content)).drop 1

/-! ### The examination of a pulse -/

/-- What the examination of the records, front first, has gathered: the records that stand, the actions and the frames in
their order, and whether a HEAD became OVERDUE, a JOIN was removed, and a JOIN was cut (R8). -/
structure Examined where
  standing : List FeatureRecord := []
  actions : List Action := []
  frames : List QueuedFrame := []
  overdueHead : Bool := false
  removed : Bool := false
  cut : Bool := false

/-- The OVERDUE cause of a pulse (R91). -/
def State.causeOfOverdue (s : State) : BitVec 16 :=
  if s.startup.straps.last = false ∧ s.handoff.down.liveness ≠ .present then 1#16
  else if s.startup.straps.last = false ∧ (s.handoff.down.code = some 5#3 ∨ s.handoff.down.code = some 4#3) then 2#16
  else 0#16

/-- One record examined at a pulse at the moment `now` that has brought Z to `z`: a HEAD or TAIL becomes DUE and OVERDUE, a
JOIN passes and lapses or, at the exit station, is cut, with the records that stand ahead of it (R8, R76, R83, R87, R90,
R91, R114). -/
def State.examine (s : State) (z : TravelWord) (now : Nat) (x : Examined) (r : FeatureRecord) : Examined :=
  let th := s.zone.thresholds
  let p := r.position z
  let reached := r.state = .travelling ∧ th.endOfZone ≤ p
  let overrun := min 65535 ((p - th.endOfZone) / 1024000)
  let report (kind : ActionKind) (up : Bool) : Action :=
    { kind := kind, serial := r.serial, feature := 3#8, tag := tagByte r.tag, upEstimated := up,
      value := BitVec.ofNat 16 overrun }
  let queued (body : FrameBody) : QueuedFrame := { body := body, age := some { base := 0, since := now }, flying := false }
  let estimated := r.origin == .lapsed
  if r.kind = .join then
    if s.startup.straps.last = true then
      if reached then
        { x with
          standing := [], removed := true, cut := true
          actions := x.actions ++ x.standing.map (handed z 2#2 false) ++ [report .cut estimated] }
      else { x with standing := x.standing ++ [r] }
    else
      let frames := x.frames ++ (if reached then [queued (.pass r.serial r.tag estimated)] else [])
      if (reached ∨ r.state = .passed) ∧ th.late ≤ p then
        { x with
          standing := [], removed := true
          actions := x.actions ++ x.standing.map (handed z 2#2 false) ++ [report .lapsed false]
          frames := frames ++ [queued (.lapse r.serial r.tag estimated overrun)] }
      else
        { x with
          standing := x.standing ++ [{ r with state := if reached then .passed else r.state }], frames := frames }
  else if (r.state = .due ∨ reached) ∧ th.late ≤ p then
    { x with
      standing := x.standing ++ [{ r with state := .overdue, learnable := false }]
      actions :=
        x.actions
          ++ [{ kind := .overdue, serial := r.serial, feature := kindByte r.kind, tag := tagByte r.tag,
                value := s.causeOfOverdue }]
      overdueHead := x.overdueHead || r.kind == .head }
  else { x with standing := x.standing ++ [{ r with state := if reached then .due else r.state }] }

/-- The arbitration field and the time of a received-frame command. -/
def receivedFrame : Instr → Option (Nat × Arbitration)
  | .claimReceived dt arb _ _ => some (dt, arb)
  | .offerReceived dt arb _ _ _ => some (dt, arb)
  | .takeReceived dt arb _ _ _ _ => some (dt, arb)
  | .passReceived dt arb _ _ _ _ => some (dt, arb)
  | .lapseReceived dt arb _ _ _ _ _ => some (dt, arb)
  | .bindReceived dt arb _ _ _ _ => some (dt, arb)
  | .paceReceived dt arb _ _ _ => some (dt, arb)
  | .raiseReceived dt arb _ => some (dt, arb)
  | .askReceived dt arb _ => some (dt, arb)
  | .vetoReceived dt arb _ => some (dt, arb)
  | .dropReceived dt arb _ => some (dt, arb)
  | _ => none

end Sys2Proof.Machine

open Sys2Proof Sys2Proof.Machine

/-! ### The machine -/

/-- The command at the front of the queue is carried out with the queue's rest; with none waiting the part idles, because it
does no work of its own accord (section 1.3; the queue is the model's, log entries 3 and 17). -/
def Obligations.StepRunsFront : Prop :=
  ∀ s : State, (∀ c : Instr, step { s with pending := c :: s.pending } = exec c s)
    ∧ (s.pending = [] → step s = .next s)

/-- No event stops the part, and no event touches the commands that wait (log entries 3 and 4). -/
def Obligations.EveryCommandCompletes : Prop :=
  ∀ (c : Instr) (s : State), ∃ t, exec c s = .next t ∧ t.pending = s.pending

/-- The part right after reset keeps every condition that holds between two events. -/
def Obligations.ResetIsSafe : Prop := State.reset.Safe

/-! ### The controller port -/

/-- What a transaction's bytes are answered (R156, R157): nothing is taken of a null block; a block that is too short or does
not sum to 0 is answered CHECK_FAILED, with byte 1 the code as received or 0 for a block of fewer than two bytes (DEDUCED, log
entry 16); an unknown code UNKNOWN; a wrong length BAD_VALUE; a command that the station state
does not allow WRONG_STATE; and in each of these cases nothing else changes. -/
def Obligations.PortJudgesBlocks : Prop :=
  ∀ (dt : Nat) (bytes : List Byte) (s : State),
    (bytes = [] ∨ bytes.head? = some 0#8 → exec (portCommand dt bytes) s = .next { s with now := s.now + dt })
    ∧ ∀ (len : Byte) (rest : List Byte), bytes = len :: rest → len ≠ 0#8 →
      let block := bytes.take len.toNat
      let code := block.getD 1 0#8
      let failed := len.toNat < 3 ∨ bytes.length < len.toNat ∨ (block.map BitVec.toNat).sum % 256 ≠ 0
      let named := 1 ≤ code.toNat ∧ code.toNat ≤ 20
      (failed → exec (portCommand dt bytes) s
        = .next (s.answered dt (if block.length < 2 then 0#8 else code) .checkFailed))
      ∧ (¬ failed → ¬ named → exec (portCommand dt bytes) s = .next (s.answered dt code .unknown))
      ∧ (¬ failed → named → len.toNat ≠ parameterBytes code.toNat + 3 →
          exec (portCommand dt bytes) s = .next (s.answered dt code .badValue))
      ∧ (¬ failed → named → len.toNat = parameterBytes code.toNat + 3 →
          takenIn code.toNat s.startup.station s.startup.straps.first = false →
          exec (portCommand dt bytes) s = .next (s.answered dt code .wrongState))

/-- A port command whose length or station state does not suit it is answered BAD_VALUE or WRONG_STATE and changes nothing
else, and an unknown code is answered UNKNOWN; a null block leaves the held response; a block that is too short or does not
sum to 0 is answered CHECK_FAILED, with byte 1 the code as received or 0 for a block of fewer than two bytes (R156, R157,
R158; log entry 16). -/
def Obligations.PortCommandsAreChecked : Prop :=
  ∀ (dt : Nat) (s : State),
    exec (.nullBlock dt) s = .next { s with now := s.now + dt }
    ∧ (∀ (len : Byte) (rest : List Byte), len ≠ 0#8 →
        len.toNat < 3 ∨ rest.length + 1 < len.toNat ∨ (((len :: rest).take len.toNat).map BitVec.toNat).sum % 256 ≠ 0 →
        exec (.blockCheckFailed dt (len :: rest)) s
          = .next (s.answered dt (if ((len :: rest).take len.toNat).length < 2 then 0#8 else rest.getD 0 0#8)
              .checkFailed))
    ∧ ∀ (code : Byte) (params : List Byte),
      (¬ (1 ≤ code.toNat ∧ code.toNat ≤ 20) → exec (.unknownCommand dt code) s = .next (s.answered dt code .unknown))
      ∧ (1 ≤ code.toNat ∧ code.toNat ≤ 20 → params.length ≠ parameterBytes code.toNat →
          exec (blockCommand dt code params) s = .next (s.answered dt code .badValue))
      ∧ (1 ≤ code.toNat ∧ code.toNat ≤ 20 → params.length = parameterBytes code.toNat →
          takenIn code.toNat s.startup.station s.startup.straps.first = false →
          exec (blockCommand dt code params) s = .next (s.answered dt code .wrongState))

/-- The bytes of a sealed block give the command of its code and parameters, and bytes after the block are ignored (R157,
R158, section 9.6.2). -/
def Obligations.PortBlockRoundTrip : Prop :=
  ∀ (dt : Nat) (code : Byte) (params extra : List Byte), params.length + 3 < 256 →
    portCommand dt (sealBlock (code :: params) ++ extra) = blockCommand dt code params

/-- ANNOUNCE (R105): the checks in their order, the bar appended as youngest, and nothing else changed; WRONG_STATE in the
other states and at a station not strapped FIRST. -/
def Obligations.AnnounceResult : Prop :=
  ∀ (dt : Nat) (hi lo tag joined : Byte) (s : State),
    let serial : Serial := hi ++ lo
    let taken := s.startup.straps.first = true ∧ (s.startup.station = .tracking ∨ s.startup.station = .parked)
    exec (.announce dt [hi, lo, tag, joined]) s
      = .next
          (if ¬ taken then s.answered dt 3#8 .wrongState
           else if serial = 0#16 ∨ ¬ (joined = 0#8 ∨ joined = 1#8) then s.answered dt 3#8 .badValue
           else if ∃ b ∈ s.entry.bars, b.serial = serial then s.answered dt 3#8 .duplicate
           else if 4 ≤ s.entry.bars.length then s.answered dt 3#8 .full
           else
            { s.answered dt 3#8 .done with
              entry :=
                { bars := s.entry.bars ++ [{ serial := serial, tag := tagOfByte tag, joined := joined == 1#8 }] } })

/-- WITHDRAW (R106): the bar of the serial leaves the list wherever it stands, the others keep their order, and nothing else
changes. -/
def Obligations.WithdrawResult : Prop :=
  ∀ (dt : Nat) (hi lo : Byte) (s : State),
    let serial : Serial := hi ++ lo
    let taken := s.startup.straps.first = true ∧ (s.startup.station = .tracking ∨ s.startup.station = .parked)
    (¬ taken → exec (.withdraw dt [hi, lo]) s = .next (s.answered dt 4#8 .wrongState))
    ∧ (taken → serial = 0#16 → exec (.withdraw dt [hi, lo]) s = .next (s.answered dt 4#8 .badValue))
    ∧ (taken → serial ≠ 0#16 → (∀ b ∈ s.entry.bars, b.serial ≠ serial) →
        exec (.withdraw dt [hi, lo]) s = .next (s.answered dt 4#8 .notFound))
    ∧ (taken → serial ≠ 0#16 → ∀ (ahead behind : List Bar) (b : Bar), s.entry.bars = ahead ++ b :: behind →
        b.serial = serial → (s.entry.bars.map Bar.serial).Nodup →
        exec (.withdraw dt [hi, lo]) s
          = .next { s.answered dt 4#8 .done with entry := { bars := ahead ++ behind } })

/-- READY (R57): the four cases of its table, taken in PLACED, TRACKING and PARKED, and nothing else changed. -/
def Obligations.ReadyResult : Prop :=
  ∀ (dt : Nat) (tag : Byte) (s : State),
    s.startup.station = .placed ∨ s.startup.station = .tracking ∨ s.startup.station = .parked →
    (tag = 255#8 → exec (.ready dt [tag]) s = .next (s.answered dt 5#8 .badValue))
    ∧ ∀ t : SetTag, tag.toNat = t.val →
      (t ∈ s.port.ready → exec (.ready dt [tag]) s = .next (s.answered dt 5#8 .done))
      ∧ (t ∉ s.port.ready → 4 ≤ s.port.ready.length → exec (.ready dt [tag]) s = .next (s.answered dt 5#8 .full))
      ∧ (t ∉ s.port.ready → s.port.ready.length < 4 →
          exec (.ready dt [tag]) s
            = .next
                { s.answered dt 5#8 .done with
                  port := { (s.answered dt 5#8 .done).port with ready := s.port.ready ++ [t] } })

/-- UNREADY (R58): the tag leaves the ready list and the rest keep their order; 255 is answered BAD_VALUE, a tag that is not
there NOT_FOUND, and in the other states WRONG_STATE. -/
def Obligations.UnreadyResult : Prop :=
  ∀ (dt : Nat) (tag : Byte) (s : State),
    let taken := s.startup.station = .placed ∨ s.startup.station = .tracking ∨ s.startup.station = .parked
    (¬ taken → exec (.unready dt [tag]) s = .next (s.answered dt 6#8 .wrongState))
    ∧ (taken → tag = 255#8 → exec (.unready dt [tag]) s = .next (s.answered dt 6#8 .badValue))
    ∧ ∀ t : SetTag, tag.toNat = t.val →
      (taken → t ∉ s.port.ready → exec (.unready dt [tag]) s = .next (s.answered dt 6#8 .notFound))
      ∧ ∀ ahead behind : List SetTag, taken → s.port.ready = ahead ++ t :: behind → t ∉ ahead → t ∉ behind →
          exec (.unready dt [tag]) s
            = .next
                { s.answered dt 6#8 .done with
                  port := { (s.answered dt 6#8 .done).port with ready := ahead ++ behind } }

/-- ATTN ENABLE and ATTN DISABLE outside STOPPED set and clear the enable and nothing else, and ATTN is high while the latch
and the enable are both set (R162). -/
def Obligations.AttentionCommands : Prop :=
  ∀ (dt : Nat) (s : State), s.startup.station ≠ .stopped →
    (∃ t, exec (.attnEnable dt []) s = .next t
      ∧ t = { s.answered dt 15#8 .done with port := { (s.answered dt 15#8 .done).port with attnEnable := true } }
      ∧ t.attn = s.port.attnLatch)
    ∧ (∃ t, exec (.attnDisable dt []) s = .next t
      ∧ t = { s.answered dt 16#8 .done with port := { (s.answered dt 16#8 .done).port with attnEnable := false } }
      ∧ t.attn = false)

/-- CLEAR COUNTS (R159): the named counts are 0, the answer is DONE, and every other item stands; WRONG_STATE in STOPPED with
the counts frozen. -/
def Obligations.ClearCountsResult : Prop :=
  ∀ (dt : Nat) (s : State),
    exec (.clearCounts dt []) s
      = .next
          (if s.startup.station = .stopped then s.answered dt 20#8 .wrongState
           else
            { s.answered dt 20#8 .done with
              zone := { s.zone with earlyTakes := 0#16 }
              sensing := { s.sensing with qualifyFail := 0#16 }
              handoff :=
                { s.handoff with
                  unmatched := 0#16, discarded := 0#16, up := { s.handoff.up with gaps := 0#8 }
                  down := { s.handoff.down with gaps := 0#8 } }
              slip := { s.slip with samples := 0#16, rejected := 0#16 }
              mill :=
                { s.mill with
                  rxErrors := 0#16, overlong := 0#16, unknownKinds := 0#16, txErrors := 0#16, txOverflows := 0#16 } })

/-- READ ACTIONS (R161, R162, section 9.6.3): the oldest records, at most 8, leave the queue; the answer carries their number,
the overflow count as it stood and the eight bytes of each; the count is reset; the latch is cleared exactly when the queue is
left empty; nothing else changes. -/
def Obligations.ReadActionsResult : Prop :=
  ∀ (dt : Nat) (s : State) (oldest rest : List Action),
    s.port.actions = oldest ++ rest → oldest.length = min 8 s.port.actions.length →
    ∃ t, exec (.readActions dt []) s = .next t
      ∧ t = { s with now := s.now + dt, port := t.port }
      ∧ t.port.held = doneResponse 17#8 ([BitVec.ofNat 8 oldest.length, s.port.overflow] ++ oldest.flatMap actionBytes)
      ∧ t.port.held.length = 6 + 8 * oldest.length
      ∧ t.port.ready = s.port.ready ∧ t.port.actions = rest ∧ t.port.overflow = 0#8
      ∧ t.port.attnLatch = (s.port.attnLatch && !rest.isEmpty) ∧ t.port.attnEnable = s.port.attnEnable

/-- READ ZONE and READ STATION complete in every state and change nothing but the held response (R163, R164, R165). The
response to READ ZONE is laid out by section 9.6.4, with the entry list as second list at a station strapped FIRST and the
expectation list elsewhere. READ STATION's holds 108 bytes, every field of section 9.6.5 at its place with the value of the
moment at which the command is taken, among them the strip speed (R36), the countdown remaining (R51) and the condition code
(R18); a value that no run exceeds is taken modulo the size of its field. -/
def Obligations.ReadsOnlyRead : Prop :=
  ∀ (dt : Nat) (s : State),
    exec (.readZone dt []) s
        = .next { s with now := s.now + dt, port := { s.port with held := doneResponse 18#8 s.zoneData } }
    ∧ ∃ data : List Byte,
      exec (.readStation dt []) s
          = .next { s with now := s.now + dt, port := { s.port with held := doneResponse 19#8 data } }
        ∧ data.length = 108
        ∧ let field (i n : Nat) : Nat := ((data.drop i).take n).foldl (fun a b => 256 * a + b.toNat) 0
          let detector (d : Detector) : Nat := match d with
            | .dormant => 0 | .armedLow => 1 | .qualRise _ => 2 | .armedHigh => 3 | .qualFall _ => 4 | .waitLow => 5
          let neighbour (i : Nat) (kept : Bool) (n : Neighbour) : Prop :=
            if kept then
              field i 1 = 1
                ∧ field (i + 1) 1 = (match n.liveness with | .unheard => 0 | .present => 1 | .silent => 2)
                ∧ field (i + 2) 1 = (match n.code with | none => 255 | some c => c.toNat)
                ∧ field (i + 3) 1 = (match n.counter with | none => 255 | some c => c.toNat)
                ∧ field (i + 4) 1 = n.gaps.toNat
                ∧ field (i + 5) 2 = (match n.lastTake with | none => 0 | some t => t.serial.toNat)
                ∧ field (i + 7) 1 = (match n.lastTake with | none => 0 | some t => (kindByte t.kind).toNat)
                ∧ field (i + 8) 1 = n.silence.isSome.toNat
            else field i 9 = 0
          (field 0 1 = (match s.startup.station with
              | .unset => 0 | .claiming => 1 | .placed => 2 | .tracking => 3 | .parked => 4 | .stopped => 5)
            ∧ field 1 1 = s.startup.position % 256
            ∧ field 2 1
              = s.startup.straps.first.toNat + 2 * s.startup.straps.last.toNat + 4 * s.startup.straps.rate0.toNat
                + 8 * s.startup.straps.rate1.toNat
            ∧ field 3 1 = (match s.startup.lastClaim with | none => 0 | some c => c.position % 256)
            ∧ field 4 1 = (match s.startup.lastClaim with | none => 0 | some c => c.first.toNat + 2 * c.last.toNat))
          ∧ (field 5 6 = s.travel.w.toNat ∧ field 11 6 = s.travel.z.toNat ∧ field 17 2 = s.travel.r % 65536
            ∧ field 19 3 = s.travel.aLast % 16777216 ∧ field 22 2 = s.travel.tp % 65536
            ∧ field 24 2
              = (if s.startup.station = .tracking ∧ s.travel.tp ≠ 65535 then
                  min 65535 (s.travel.aLast * 125 / (s.travel.tp * 128))
                else 0))
          ∧ (field 26 2 = s.slip.code % 65536 ∧ field 28 2 = s.slip.samples.toNat ∧ field 30 2 = s.slip.rejected.toNat
            ∧ (s.slip.last = none → field 32 18 = 0)
            ∧ ∀ m, s.slip.last = some m →
                field 32 1 = (match m.source with | .take => 1 | .exit => 2) ∧ field 33 2 = m.serial.toNat
                  ∧ field 35 2 = m.rollTravel % 65536
                  ∧ (field 37 8 : Int) = (match m.measured with | none => 0 | some v => v % 18446744073709551616)
                  ∧ field 45 1 = (match m.outcome with
                    | .accepted => 0 | .clamped => 1 | .rejectedZero => 2 | .rejectedBand => 3)
                  ∧ (field 46 2 : Int) = m.step % 65536 ∧ field 48 2 = m.codeAfter % 65536)
          ∧ (field 50 1 = detector s.sensing.load ∧ field 51 1 = detector s.sensing.exit
            ∧ (s.sensing.inhibit = none → field 52 1 = 0 ∧ field 53 2 = 0)
            ∧ (∀ e, s.sensing.inhibit = some e →
                field 52 1 = 1 ∧ field 53 2 = (e - (s.now + dt) + 999) / 1000 % 65536)
            ∧ field 55 2 = s.sensing.qualifyFail.toNat)
          ∧ (s.hasCondition (field 57 1) ∧ field 58 1 = s.zone.overdueFlag.toNat ∧ field 59 1 = s.lines.hostTrip.toNat
            ∧ field 60 1 = s.lines.signals.toNat)
          ∧ neighbour 61 (!s.startup.straps.first) s.handoff.up ∧ neighbour 70 (!s.startup.straps.last) s.handoff.down
          ∧ (∀ n : Fin 8,
              let line := s.lines.line.get n
              (field 79 1).testBit n = line.copy ∧ (field 80 1).testBit n = line.contribution
                ∧ (field 81 1).testBit n = line.foreignAsk
                ∧ field 82 2 / 4 ^ n.val % 4
                  = (match line.ask with | .none => 0 | .asking => 1 | .window => 2 | .dropping => 3))
          ∧ (field 84 1 = s.port.ready.length % 256
            ∧ (∀ i : Fin 4, field (85 + i.val) 1 = (match s.port.ready[i.val]? with | none => 255 | some t => t.val))
            ∧ field 89 1 = s.port.actions.length % 256 ∧ field 90 1 = s.port.overflow.toNat
            ∧ field 91 1 = s.port.attnLatch.toNat + 2 * s.port.attnEnable.toNat)
          ∧ field 92 2 = s.zone.earlyTakes.toNat ∧ field 94 2 = s.handoff.unmatched.toNat
          ∧ field 96 2 = s.handoff.discarded.toNat ∧ field 98 2 = s.mill.rxErrors.toNat
          ∧ field 100 2 = s.mill.overlong.toNat ∧ field 102 2 = s.mill.unknownKinds.toNat
          ∧ field 104 2 = s.mill.txErrors.toNat ∧ field 106 2 = s.mill.txOverflows.toNat

/-! ### Start-up and the station states -/

/-- HARDWARE_RESET (R12, R146): every item at its reset value with the straps read; a station
strapped FIRST enters CLAIMING at position 1 with its CLAIM queued, any other stays in UNSET. The model's own choices: the time
base starts again at 0 and the other input pins keep their levels (log entries 1 and 6), the start-of-frame latch and the
moment of the last pulse take the values of log entry 7, the thresholds those of log entry 8, and the waiting commands are kept
(log entry 21). The second part gives the values that the spec states
(R12, R20, R37, R46, R54, R57, R62, R66, R78, R80, R94, R104, R117, R132, R135, R142, R145, R146, R152, R156, R160, R162). -/
def Obligations.HardwareResetResult : Prop :=
  (∀ (straps : Straps) (chainIn : Bool) (s : State),
    let t : State :=
      { State.reset with
        pins := { s.pins with chainIn := chainIn }
        startup := { State.reset.startup with straps := straps }
        pending := s.pending }
    (straps.first = false → exec (.hardwareReset straps chainIn) s = .next t)
    ∧ (straps.first = true →
        exec (.hardwareReset straps chainIn) s
          = .next
              { t with
                startup := { t.startup with station := .claiming, position := 1 }
                mill := { t.mill with queue := [{ body := .claim 1 true straps.last, age := none, flying := false }] } }))
  ∧ State.reset.startup.station = .unset ∧ State.reset.startup.position = 0 ∧ State.reset.startup.lastClaim = none
    ∧ State.reset.startup.chainOut = false ∧ State.reset.startup.claimRepeat = none
    ∧ State.reset.startup.config
      = { zoneLength := 5500, pitch := 1024000, initialSlip := 3277, gain := 4, qualify := 2000, lateMargin := 400,
          earlyWindow := 600, pacePeriod := 20, silencePeriods := 4, strobeWidth := 100, sigout0 := ⟨0#8, false⟩,
          sigout1 := ⟨0#8, false⟩, sigout2 := ⟨0#8, false⟩, sigout3 := ⟨0#8, false⟩, sigin0 := ⟨0#8, false⟩,
          sigin1 := ⟨0#8, false⟩ }
    ∧ State.reset.travel.w = 0#48 ∧ State.reset.travel.z = 0#48 ∧ State.reset.travel.r = 0 ∧ State.reset.travel.aLast = 0
    ∧ State.reset.travel.tp = 65535 ∧ State.reset.travel.stallRunning = false ∧ State.reset.travel.restart = true
    ∧ State.reset.sensing = { load := .dormant, exit := .dormant, qualifyFail := 0#16, inhibit := none }
    ∧ State.reset.zone.queue = [] ∧ State.reset.zone.overdueFlag = false ∧ State.reset.zone.earlyTakes = 0#16
    ∧ State.reset.handoff.expectations = [] ∧ State.reset.handoff.anonCounter = 0#8
    ∧ State.reset.handoff.lastTake = none ∧ State.reset.handoff.paceTimer = none
    ∧ State.reset.handoff.paceCounter = 0#2 ∧ State.reset.handoff.unmatched = 0#16
    ∧ State.reset.handoff.discarded = 0#16
    ∧ State.reset.handoff.up
      = { liveness := .unheard, code := none, counter := none, gaps := 0#8, lastTake := none, silence := none }
    ∧ State.reset.handoff.down
      = { liveness := .unheard, code := none, counter := none, gaps := 0#8, lastTake := none, silence := none }
    ∧ State.reset.slip = { code := 3277, samples := 0#16, rejected := 0#16, last := none }
    ∧ State.reset.entry.bars = []
    ∧ (∀ n : Fin 8, State.reset.lines.line.get n
        = { copy := false, contribution := false, ask := .none, windowEnd := none, foreignAsk := false })
    ∧ State.reset.lines.hostTrip = false ∧ State.reset.lines.signals = 0#8 ∧ State.reset.strobe = none
    ∧ State.reset.mill.rx = .hunt ∧ State.reset.mill.idle = 0 ∧ State.reset.mill.queue = []
    ∧ (∀ k : LineKind, (State.reset.mill.slots.get k).mask = 0#8) ∧ State.reset.mill.flight = none
    ∧ State.reset.mill.rxErrors = 0#16 ∧ State.reset.mill.overlong = 0#16 ∧ State.reset.mill.unknownKinds = 0#16
    ∧ State.reset.mill.txErrors = 0#16 ∧ State.reset.mill.txOverflows = 0#16
    ∧ State.reset.port
      = { held := [4#8, 0#8, 0#8, 252#8], ready := [], actions := [], overflow := 0#8, attnLatch := false,
          attnEnable := false }


/-- A valid CLAIM in UNSET (R147, R148): ignored when its position field differs from its arbitration position; otherwise
recorded; and with CHAIN-IN high at a station not strapped FIRST the station chooses the next position and queues its own
CLAIM, or, as a ninth, posts FAULT TRAIN_TOO_LONG with byte 3 the refused position 9 and enters STOPPED with its position
still 0 (R14). -/
def Obligations.ClaimChoosesPosition : Prop :=
  ∀ (dt : Nat) (arb : Arbitration) (position flags : Byte) (s : State), s.reading = true →
    s.startup.station = .unset →
    let heard : StartUp :=
      { s.startup with
        lastClaim := some { position := arb.position, first := flags.getLsbD 0, last := flags.getLsbD 1 } }
    let d := s.delivered dt
    (position.toNat ≠ arb.position → exec (.claimReceived dt arb position flags) s = .next d)
    ∧ (position.toNat = arb.position → (s.startup.straps.first = true ∨ s.pins.chainIn = false) →
        exec (.claimReceived dt arb position flags) s = .next { d with startup := heard })
    ∧ (position.toNat = arb.position → s.startup.straps.first = false → s.pins.chainIn = true →
        arb.position < 8 → s.mill.queue = [] →
        exec (.claimReceived dt arb position flags) s
          = .next
              { d with
                startup := { heard with station := .claiming, position := arb.position + 1 }
                mill :=
                  { d.mill with
                    queue :=
                      [{ body := .claim (arb.position + 1) false s.startup.straps.last, age := none,
                         flying := false }] } })
    ∧ (position.toNat = arb.position → s.startup.straps.first = false → s.pins.chainIn = true →
        arb.position = 8 → s.port.actions.length < 16 →
        ∃ t, exec (.claimReceived dt arb position flags) s = .next t
          ∧ State.stops
              { d with
                startup := heard
                port :=
                  s.port.posted
                    [{ kind := .fault, serial := 0#16, feature := 9#8, tag := 255#8, value := 6#16 }] } t)

/-- A valid CLAIM in the other states (R148, R150, R151, R80). In CLAIMING it is recorded and has no other effect. In PLACED,
TRACKING and PARKED one that is no position clash refreshes the record of a neighbour that sent it; one whose position field
differs is otherwise ignored; one from own+1 is recorded, stops the claim repeat, and takes a waiting CLAIM of this station out
of its place without a count; and any other is recorded and has no further effect. -/
def Obligations.ClaimFromSuccessorStopsRepeat : Prop :=
  ∀ (dt : Nat) (arb : Arbitration) (position flags : Byte) (s : State), s.reading = true →
    let heard : StartUp :=
      { s.startup with
        lastClaim := some { position := arb.position, first := flags.getLsbD 0, last := flags.getLsbD 1 } }
    let d := s.delivered dt
    let c : Instr := .claimReceived dt arb position flags
    (s.startup.station = .claiming →
      exec c s = .next (if position.toNat = arb.position then { d with startup := heard } else d))
    ∧ (s.startup.station.operating = true → arb.position ≠ s.startup.position → s.port.actions.length < 16 →
      let refreshed : State :=
        { d with handoff := s.refreshed arb d.now, port := s.port.posted (s.returnActions arb) }
      (position.toNat ≠ arb.position → exec c s = .next refreshed)
      ∧ (position.toNat = arb.position → arb.position ≠ s.startup.position + 1 →
          exec c s = .next { refreshed with startup := heard })
      ∧ (position.toNat = arb.position → arb.position = s.startup.position + 1 →
          exec c s
            = .next
                { refreshed with
                  startup := { heard with claimRepeat := none }
                  mill := { d.mill with queue := s.mill.queue.filter (fun f => !(f.body.isClaim && !f.flying)) } }))

/-- The station's own CLAIM sent in CLAIMING (R149, R130, R78, R80, R124): CHAIN-OUT rises, the station is PLACED, the PACE
timer and the silence timers of the kept records start, a RAISE is merged for every contribution, and the claim repeat timer
starts with 10 ms unless the station is strapped LAST or stands at position 8. The receiver reads on to the end of its own
frame (R138, DEDUCED in log entry 11). -/
def Obligations.ClaimSentPlacesStation : Prop :=
  ∀ (dt position : Nat) (first last : Bool) (wire : List Bool) (s : State), s.startup.station = .claiming →
    s.mill.flight = some { source := .place (.claim position first last), wire := wire } →
    let silence := s.now + dt + s.startup.config.silencePeriods * s.startup.config.pacePeriod * 1000
    ∃ t, exec (.frameSent dt) s = .next t
      ∧ t.startup
        = { s.startup with
            station := .placed, chainOut := true
            claimRepeat :=
              if s.startup.straps.last = false ∧ s.startup.position < 8 then some (s.now + dt + 10000)
              else s.startup.claimRepeat }
      ∧ t.handoff
        = { s.handoff with
            paceTimer := some (s.now + dt + s.startup.config.pacePeriod * 1000)
            up := if s.startup.straps.first then s.handoff.up else { s.handoff.up with silence := some silence }
            down := if s.startup.straps.last then s.handoff.down else { s.handoff.down with silence := some silence } }
      ∧ t.mill
        = { s.mill with
            rx := .receiving, ownTail := true, idle := min 11 (wire.reverse.takeWhile id).length
            queue := s.mill.queue.filter (fun f => !f.flying), flight := none
            slots := { s.mill.slots with raise := t.mill.slots.raise } }
      ∧ t.mill.slots.raise.mask = s.mill.slots.raise.mask ||| s.contributions ∧ s.slotsTimed t
      ∧ s.sameStand t ∧ t.zone = s.zone ∧ t.lines = s.lines ∧ t.port = s.port ∧ t.pins = s.pins
      ∧ t.strobe = s.strobe ∧ t.pending = s.pending

/-- CLAIM_REPEAT_EXPIRY (R150): the timer restarts with 10 ms, and a CLAIM of the own position and straps is queued unless one
still has a place, in flight or not (log entry 15). A stopped timer has no expiry (log entry 2). -/
def Obligations.ClaimRepeatResult : Prop :=
  ∀ s : State,
    (s.startup.claimRepeat = none → exec .claimRepeatExpiry s = .next s)
    ∧ ∀ deadline, s.startup.claimRepeat = some deadline →
      let now := max s.now deadline
      let restarted : StartUp := { s.startup with claimRepeat := some (now + 10000) }
      (s.mill.queue.any (fun f => f.body.isClaim) = true →
        exec .claimRepeatExpiry s = .next { s with now := now, startup := restarted })
      ∧ (s.mill.queue.any (fun f => f.body.isClaim) = false → s.mill.queue.length < 8 →
          exec .claimRepeatExpiry s
            = .next
                { s with
                  now := now, startup := restarted
                  mill :=
                    { s.mill with
                      queue :=
                        s.mill.queue
                          ++ [{ body := .claim s.startup.position s.startup.straps.first s.startup.straps.last,
                                age := none, flying := false }] } })
      ∧ (s.mill.queue.any (fun f => f.body.isClaim) = false → s.mill.queue.length = 8 →
          exec .claimRepeatExpiry s
            = .next
                { s with
                  now := now, startup := restarted
                  mill := { s.mill with txOverflows := satInc16 s.mill.txOverflows } })

/-- CONFIGURE of a numeric item (R152, R153): the value is clamped to the item's range, a margin also to half the zone length
that the record holds, written to that item alone, and answered CLAMPED when the clamp changed it and DONE otherwise; an item
number outside 1 to 16 is answered BAD_VALUE. -/
def Obligations.ConfigureNumericResult : Prop :=
  ∀ (dt : Nat) (item v3 v2 v1 v0 : Byte) (s : State),
    s.startup.station = .unset ∨ s.startup.station = .claiming ∨ s.startup.station = .placed →
    let v := v3.toNat * 16777216 + v2.toNat * 65536 + v1.toNat * 256 + v0.toNat
    let c := s.startup.config
    let writes (w : Nat) (c' : Configuration) : Prop :=
      exec (.configure dt [item, v3, v2, v1, v0]) s
        = .next
            { s.answered dt 1#8 (if w = v then .done else .clamped) with
              startup := { s.startup with config := c' } }
    let clamp (lo hi : Nat) : Nat := if v < lo then lo else if hi < v then hi else v
    (item = 1#8 →
      let w := clamp 500 (if s.startup.straps.last then 200000 else 20000)
      writes w { c with zoneLength := w })
    ∧ (item = 2#8 → let w := clamp 1024 4096000; writes w { c with pitch := w })
    ∧ (item = 3#8 → let w := clamp 0 16384; writes w { c with initialSlip := w })
    ∧ (item = 4#8 → let w := clamp 0 16; writes w { c with gain := w })
    ∧ (item = 5#8 → let w := clamp 100 50000; writes w { c with qualify := w })
    ∧ (item = 6#8 → let w := min (clamp 50 5000) (c.zoneLength / 2); writes w { c with lateMargin := w })
    ∧ (item = 7#8 → let w := min (clamp 0 5000) (c.zoneLength / 2); writes w { c with earlyWindow := w })
    ∧ (item = 8#8 → let w := clamp 5 100; writes w { c with pacePeriod := w })
    ∧ (item = 9#8 → let w := clamp 2 15; writes w { c with silencePeriods := w })
    ∧ (item = 10#8 → let w := clamp 10 10000; writes w { c with strobeWidth := w })
    ∧ (item = 0#8 ∨ 16 < item.toNat →
        exec (.configure dt [item, v3, v2, v1, v0]) s = .next (s.answered dt 1#8 .badValue))

/-- CONFIGURE of a map item (R154): the lowest byte is the line set and the next the inversion, any other inversion is
answered BAD_VALUE with nothing changed; a SIGOUT map is written whole and answered DONE and nothing else changes; a SIGIN map
is written whole and answered DONE, and the contributions of the lines of its old and its new set are formed afresh, with the
exchange in PLACED and without any frame before (R119, R121, R122, R142). -/
def Obligations.ConfigureMapResult : Prop :=
  ∀ (dt : Nat) (item v3 v2 inversion lines : Byte) (s : State),
    s.startup.station = .unset ∨ s.startup.station = .claiming ∨ s.startup.station = .placed →
    11 ≤ item.toNat ∧ item.toNat ≤ 16 →
    let c := s.startup.config
    let answer (a : Answer) : State := s.answered dt 1#8 a
    let writes (c' : Configuration) : Prop :=
      exec (.configure dt [item, v3, v2, inversion, lines]) s
        = .next { answer .done with startup := { s.startup with config := c' } }
    let writesSigin (old : LineMask) (c' : Configuration) : Prop :=
      ∃ t, exec (.configure dt [item, v3, v2, inversion, lines]) s = .next t
        ∧ State.onlyLines { answer .done with startup := { s.startup with config := c' } } t
        ∧ (∀ n : Fin 8,
            t.view n
              = if (old ||| lines).getLsbD n = false then s.view n
                else if s.startup.station = .placed then (s.view n).formed (t.sources.getLsbD n)
                else { s.view n with line := { (s.view n).line with contribution := t.sources.getLsbD n } })
        ∧ s.slotsTimed t
    (inversion ≠ 0#8 → inversion ≠ 1#8 →
      exec (.configure dt [item, v3, v2, inversion, lines]) s = .next (answer .badValue))
    ∧ ∀ inv : Bool, inversion = (if inv then 1#8 else 0#8) →
      (item = 11#8 → writes { c with sigout0 := ⟨lines, inv⟩ })
      ∧ (item = 12#8 → writes { c with sigout1 := ⟨lines, inv⟩ })
      ∧ (item = 13#8 → writes { c with sigout2 := ⟨lines, inv⟩ })
      ∧ (item = 14#8 → writes { c with sigout3 := ⟨lines, inv⟩ })
      ∧ (item = 15#8 → writesSigin c.sigin0.lines { c with sigin0 := ⟨lines, inv⟩ })
      ∧ (item = 16#8 → writesSigin c.sigin1.lines { c with sigin1 := ⟨lines, inv⟩ })

/-- CLOSE in PLACED (R155, R29, R20, R38): both margins clamped to half the zone length, the thresholds fixed, the travel
counter and S set, TRACKING entered, the detectors in use armed by their levels with FAULT BITE_PRESENT when LOAD is high;
CLAMPED when a margin changed, DONE otherwise; and all else stands. -/
def Obligations.CloseResult : Prop :=
  ∀ (dt : Nat) (s : State), s.startup.station = .placed →
    50 ≤ s.startup.config.lateMargin ∧ s.startup.config.lateMargin ≤ 5000 → s.startup.config.earlyWindow ≤ 5000 →
    s.port.actions.length < 16 →
    let late := min s.startup.config.lateMargin (s.startup.config.zoneLength / 2)
    let early := min s.startup.config.earlyWindow (s.startup.config.zoneLength / 2)
    let l := s.startup.config.zoneLength
    let a : Answer :=
      if late = s.startup.config.lateMargin ∧ early = s.startup.config.earlyWindow then .done else .clamped
    let fault : Action := { kind := .fault, serial := 0#16, feature := 0#8, tag := 255#8, value := 7#16 }
    exec (.close dt []) s
      = .next
          { s.answered dt 2#8 a with
            startup :=
              { s.startup with
                station := .tracking
                config := { s.startup.config with lateMargin := late, earlyWindow := early } }
            zone :=
              { s.zone with
                thresholds :=
                  { endOfZone := l * 1024000, late := (l + late) * 1024000, early := (l - early) * 1024000 } }
            travel :=
              { s.travel with
                w := 0#48, z := 0#48, r := 0, aLast := 0, tp := 65535, stallRunning := false, restart := true }
            slip := { s.slip with code := s.startup.config.initialSlip }
            sensing :=
              { s.sensing with
                load := if s.pins.load then .waitLow else .armedLow
                exit :=
                  if s.startup.straps.last then (if s.pins.exit then .waitLow else .armedLow) else s.sensing.exit }
            port := (s.answered dt 2#8 a).port.posted (if s.pins.load then [fault] else []) }

/-- PARK in TRACKING (R15, R21, R43): NOT_CLEAR with nothing changed unless the zone queue and the expectation list are empty
and no qualification is in progress; otherwise PARKED is entered with T_p stalled, the stall timer stopped, the detectors
DORMANT and a countdown ended without its expiry, and all else stands. -/
def Obligations.ParkResult : Prop :=
  ∀ (dt : Nat) (s : State), s.startup.station = .tracking →
    let clear :=
      s.zone.queue = [] ∧ s.handoff.expectations = [] ∧ (∀ l, s.sensing.load ≠ .qualRise l ∧ s.sensing.load ≠ .qualFall l)
        ∧ (∀ l, s.sensing.exit ≠ .qualRise l ∧ s.sensing.exit ≠ .qualFall l)
    (¬ clear → exec (.park dt []) s = .next (s.answered dt 10#8 .notClear))
    ∧ (clear →
        exec (.park dt []) s
          = .next
              { s.answered dt 10#8 .done with
                startup := { s.startup with station := .parked }
                travel := { s.travel with tp := 65535, stallRunning := false }
                sensing := { s.sensing with load := .dormant, exit := .dormant, inhibit := none } })

/-- RESUME in PARKED (R16, R21, R38): TRACKING, the interval restart marker set, the detectors in use armed by their levels
with FAULT BITE_PRESENT when LOAD is high, and all else stands; the answer is DONE in both cases. -/
def Obligations.ResumeResult : Prop :=
  ∀ (dt : Nat) (s : State), s.startup.station = .parked → s.port.actions.length < 16 →
    let fault : Action := { kind := .fault, serial := 0#16, feature := 0#8, tag := 255#8, value := 7#16 }
    exec (.resume dt []) s
      = .next
          { s.answered dt 11#8 .done with
            startup := { s.startup with station := .tracking }
            travel := { s.travel with restart := true }
            sensing :=
              { s.sensing with
                load := if s.pins.load then .waitLow else .armedLow
                exit :=
                  if s.startup.straps.last then (if s.pins.exit then .waitLow else .armedLow) else s.sensing.exit }
            port := (s.answered dt 11#8 .done).port.posted (if s.pins.load then [fault] else []) }

/-- CLEAR TRACK in TRACKING or PARKED (R17, R10, R11): the zone queue and the expectation list are empty, the last take is
"none" and the overdue/zone-full flag is clear; nothing is posted or taken out of the eight places; the TRIP and THREAD
contributions are formed afresh with what R121 and R122 let follow, and the other lines stand. -/
def Obligations.ClearTrackResult : Prop :=
  ∀ (dt : Nat) (s : State), s.startup.station = .tracking ∨ s.startup.station = .parked →
    ∃ t, exec (.clearTrack dt []) s = .next t
      ∧ State.onlyLines
          { s.answered dt 12#8 .done with
            zone := { s.zone with queue := [], overdueFlag := false }
            handoff := { s.handoff with expectations := [], lastTake := none } } t
      ∧ s.linesFormed t 3#8


/-! ### Train lines: the own contributions -/

/-- TRIP, CLEAR TRIP and SIGNAL in PLACED, TRACKING and PARKED (R118, R121, R122): the flags change, the contributions of the
lines concerned are formed afresh and the exchange follows for them alone, with the filling times of the slots (R142; where
some lines rise and others fall, the order of log entry 27); SIGNAL ignores its bits for TL0 and TL1 and is
answered BAD_VALUE with nothing changed when it would both set and clear a line. -/
def Obligations.HostFlagsResult : Prop :=
  ∀ (dt : Nat) (s : State), s.startup.station.operating = true →
    (∀ flag : Bool, ∃ t,
      exec (if flag then .trip dt [] else .clearTrip dt []) s = .next t
        ∧ State.onlyLines
            { s.answered dt (if flag then 7#8 else 8#8) .done with lines := { s.lines with hostTrip := flag } } t
        ∧ (∀ n : Fin 8, t.view n = if n = 0 then (s.view n).formed (t.sources.getLsbD 0) else s.view n)
        ∧ s.slotsTimed t)
    ∧ ∀ set clear : Byte,
      (set &&& clear &&& 252#8 ≠ 0#8 → exec (.signal dt [set, clear]) s = .next (s.answered dt 9#8 .badValue))
      ∧ (set &&& clear &&& 252#8 = 0#8 → ∃ t, exec (.signal dt [set, clear]) s = .next t
        ∧ State.onlyLines
            { s.answered dt 9#8 .done with
              lines :=
                { s.lines with signals := (s.lines.signals ||| (set &&& 252#8)) &&& ~~~(clear &&& 252#8) } } t
        ∧ (∀ n : Fin 8,
            t.view n
              = if ((set ||| clear) &&& 252#8).getLsbD n = true then (s.view n).formed (t.sources.getLsbD n)
                else s.view n)
        ∧ s.slotsTimed t)

/-- The pins: CHAIN_IN_RISE records the level that CHAIN-IN takes and makes no choice (R147; log entry 26); STROBE_END ends a
running pulse, not before its end, and does nothing without one (R132; DESIGN CHOICE, log entry 2); SIGIN_CHANGE
forms the contributions of the input's mapped lines afresh, with the exchange in PLACED, TRACKING and PARKED and without any
frame before, and leaves frozen contributions alone in STOPPED (R119); and SIGOUTn is high while a line of its set is high,
inverted when its inversion is on (R131). An input that stands at its level already makes no event (log entry 4). -/
def Obligations.PinEvents : Prop :=
  ∀ (dt : Nat) (s : State),
    (∀ level : Bool,
      exec (.chainInRise { dt := dt, level := level }) s
        = .next { s with now := s.now + dt, pins := { s.pins with chainIn := level } })
    ∧ (s.strobe = none → exec .strobeEnd s = .next s)
    ∧ (∀ e, s.strobe = some e → exec .strobeEnd s = .next { s with now := max s.now e, strobe := none })
    ∧ (∀ (input : SignalInput) (level : Bool), s.pins.sigin input = level →
        exec (.siginChange dt input level) s = .next { s with now := s.now + dt })
    ∧ (∀ (input : SignalInput) (level : Bool), s.pins.sigin input ≠ level →
        let map := match input with | .sigin0 => s.startup.config.sigin0 | .sigin1 => s.startup.config.sigin1
        let pins := match input with | .sigin0 => { s.pins with sigin0 := level } | .sigin1 => { s.pins with sigin1 := level }
        ∃ t, exec (.siginChange dt input level) s = .next t
          ∧ State.onlyLines { s with now := s.now + dt, pins := pins } t
          ∧ (∀ n : Fin 8,
              t.view n
                = if map.lines.getLsbD n = false ∨ s.startup.station = .stopped then s.view n
                  else if s.startup.station.operating then (s.view n).formed (t.sources.getLsbD n)
                  else { s.view n with line := { (s.view n).line with contribution := t.sources.getLsbD n } })
          ∧ s.slotsTimed t)
    ∧ (∀ k : Fin 4,
        let map := match k with
          | 0 => s.startup.config.sigout0 | 1 => s.startup.config.sigout1
          | 2 => s.startup.config.sigout2 | 3 => s.startup.config.sigout3
        s.sigout k
          = (decide (∃ n : Fin 8, map.lines.getLsbD n = true ∧ (s.lines.line.get n).copy = true) != map.inverted))

/-! ### Slip and the bite inhibit by command -/

/-- SLIP (R102): in TRACKING and PARKED the value, clamped to 16,384, is written to S and nothing else changes; in the other
states WRONG_STATE. -/
def Obligations.SlipCommandResult : Prop :=
  ∀ (dt : Nat) (hi lo : Byte) (s : State),
    let v := hi.toNat * 256 + lo.toNat
    exec (.slip dt [hi, lo]) s
      = .next
          (if s.startup.station = .tracking ∨ s.startup.station = .parked then
            if v ≤ 16384 then { s.answered dt 14#8 .done with slip := { s.slip with code := v } }
            else { s.answered dt 14#8 .clamped with slip := { s.slip with code := 16384 } }
          else s.answered dt 14#8 .wrongState)

/-- INHIBIT in TRACKING (R46, R47): a nonzero time, clamped to 2,000 ms, starts or restarts the countdown and abandons a
qualification on LOAD without a count, unless its level has been held for longer than the qualify time: such a level has first
delivered its event (R41; log entry 2); 0 ends a running countdown as its expiry at this moment and otherwise changes nothing.
-/
def Obligations.InhibitCommandResult : Prop :=
  ∀ (dt : Nat) (hi lo : Byte) (s : State), s.startup.station = .tracking →
    let ms := hi.toNat * 256 + lo.toNat
    let load := match s.sensing.load with | .qualRise _ => .armedLow | .qualFall _ => .armedHigh | d => d
    (0 < ms → s.overdue s.sensing.load (s.now + dt) → ∃ v, exec (.qualificationExpiry .load) s = .next v
      ∧ exec (.inhibit dt [hi, lo]) s = exec (.inhibit (s.now + dt - v.now) [hi, lo]) v)
    ∧ (0 < ms → ms ≤ 2000 → ¬ s.overdue s.sensing.load (s.now + dt) → exec (.inhibit dt [hi, lo]) s
      = .next
          { s.answered dt 13#8 .done with
            sensing := { s.sensing with inhibit := some (s.now + dt + ms * 1000), load := load } })
    ∧ (2000 < ms → ¬ s.overdue s.sensing.load (s.now + dt) → exec (.inhibit dt [hi, lo]) s
      = .next
          { s.answered dt 13#8 .clamped with
            sensing := { s.sensing with inhibit := some (s.now + dt + 2000000), load := load } })
    ∧ (ms = 0 → s.sensing.inhibit = none → exec (.inhibit dt [hi, lo]) s = .next (s.answered dt 13#8 .done))
    ∧ (ms = 0 → s.sensing.inhibit ≠ none → ∃ t,
        exec .biteInhibitExpiry
            { s with now := s.now + dt, sensing := { s.sensing with inhibit := some (s.now + dt) } } = .next t
          ∧ exec (.inhibit dt [hi, lo]) s
            = .next { t with port := { t.port with held := [4#8, 13#8, 0#8, 239#8] } })

/-! ### Travel and the zone -/

/-- ENCODER_PULSE (R22 to R25): outside TRACKING the time passes and nothing else; in TRACKING W advances by the pitch, N is
formed exactly from the remainder and S, Z advances by its whole part, T_p is the interval, 65,535 after CLOSE or RESUME, and
the stall timer starts afresh. The pulse touches neither sensing, S, the hand-off unit, the entry list, the early-take count,
the copies nor the receiver. -/
def Obligations.PulseAdvancesTravel : Prop :=
  ∀ (dt : Nat) (s : State),
    (s.startup.station ≠ .tracking → exec (.encoderPulse dt) s = .next { s with now := s.now + dt })
    ∧ (s.startup.station = .tracking →
        let n := s.startup.config.pitch * (65536 + s.slip.code) + s.travel.r
        let interval := s.now + dt - s.travel.lastPulse
        ∃ t, exec (.encoderPulse dt) s = .next t
          ∧ t.travel
            = { w := BitVec.ofNat 48 (s.travel.w.toNat + s.startup.config.pitch)
                z := BitVec.ofNat 48 (s.travel.z.toNat + n / 65536)
                r := n % 65536
                aLast := n / 65536
                tp := if s.travel.restart = true ∨ 65535 < interval then 65535 else if interval = 0 then 1 else interval
                stallRunning := true
                lastPulse := s.now + dt
                restart := false }
          ∧ t.now = s.now + dt ∧ t.pins = s.pins ∧ t.startup = s.startup ∧ t.sensing = s.sensing ∧ t.slip = s.slip
          ∧ t.handoff = s.handoff ∧ t.entry = s.entry ∧ t.zone.earlyTakes = s.zone.earlyTakes
          ∧ t.zone.thresholds = s.zone.thresholds ∧ t.port.ready = s.port.ready ∧ t.port.held = s.port.held
          ∧ t.port.attnEnable = s.port.attnEnable ∧ t.copies = s.copies ∧ s.mill.sameReceiver t.mill
          ∧ t.pending = s.pending)

/-- The comparisons of a counted pulse in a zone that holds no JOIN (R8, R30, R90, R91, R10): a HEAD or TAIL becomes DUE at
L and OVERDUE and not learnable at the late threshold, through both at one pulse where it has reached both; a record beyond
the ceiling is held at it; each record that becomes OVERDUE posts OVERDUE with its cause, front first; and a HEAD that does
sets the overdue/zone-full flag and the TRIP contribution, with what R121 lets follow, while every other line stands. -/
def Obligations.PulseComparesHeadsAndTails : Prop :=
  ∀ (dt : Nat) (s : State), s.startup.station = .tracking → (∀ r ∈ s.zone.queue, r.kind ≠ .join) →
    s.port.actions.length + s.zone.queue.length ≤ 16 →
    ∃ t, exec (.encoderPulse dt) s = .next t ∧
      let th := s.zone.thresholds
      let late (r : FeatureRecord) : Bool :=
        decide ((r.state = .due ∨ (r.state = .travelling ∧ th.endOfZone ≤ r.position t.travel.z))
          ∧ th.late ≤ r.position t.travel.z)
      let newly := s.zone.queue.filter late
      let cause := s.causeOfOverdue
      t.zone.queue
          = s.zone.queue.map (fun r =>
              { r with
                state :=
                  if late r then .overdue
                  else if r.state = .travelling ∧ th.endOfZone ≤ r.position t.travel.z then .due else r.state
                learnable := if late r then false else r.learnable
                entryZ :=
                  if 2 ^ 47 < r.position t.travel.z then t.travel.z - BitVec.ofNat 48 (2 ^ 47) else r.entryZ })
        ∧ t.port
          = s.port.posted (newly.map (fun r =>
              { kind := .overdue, serial := r.serial, feature := r.kind.code, tag := tagCode r.tag, value := cause }))
        ∧ t.zone.overdueFlag = (s.zone.overdueFlag || newly.any (fun r => r.kind == .head))
        ∧ t.contributions
          = (if newly.any (fun r => r.kind == .head) then s.contributions ||| 1#8 else s.contributions)
        ∧ (∀ n : Fin 8,
            t.view n
              = if n = 0 ∧ newly.any (fun r => r.kind == .head) = true then (s.view n).formed true else s.view n)
        ∧ s.slotsTimed t ∧ t.mill.queue = s.mill.queue ∧ t.strobe = s.strobe

/-- The comparisons of a counted pulse in any zone (R8, R9, R10, R11, R30, R76, R83, R87, R90, R114): the records are examined
front first, and the pulse leaves what the examination has gathered: the records that stand, held at the ceiling, the actions
and the frames in their order, the overdue/zone-full flag and TRIP after an overdue HEAD, THREAD after a removal, and a STROBE
pulse after a cut. The second part says the same of one JOIN whose other records pass no threshold: at L it is PASSED and a
PASS is queued, and at the late threshold it leaves with the records ahead of it, LAPSED is posted and a LAPSE queued behind
the PASS; at the exit station it leaves at L with CUT and a STROBE pulse; otherwise nothing happens to it. -/
def Obligations.PulseMovesJoins : Prop :=
  (∀ (dt : Nat) (s : State), s.startup.station = .tracking →
    s.contributions.getLsbD 1 = s.sources.getLsbD 1 →
    let z := BitVec.ofNat 48
      (s.travel.z.toNat + (s.startup.config.pitch * (65536 + s.slip.code) + s.travel.r) / 65536)
    let x := s.zone.queue.foldl (s.examine z (s.now + dt)) {}
    s.mill.queue.length + x.frames.length ≤ 8 → s.port.actions.length + x.actions.length ≤ 16 →
    ∃ t, exec (.encoderPulse dt) s = .next t
      ∧ t.zone
        = { s.zone with
            queue :=
              x.standing.map (fun r =>
                { r with
                  entryZ := if 2 ^ 47 < r.position z then z - BitVec.ofNat 48 (2 ^ 47) else r.entryZ })
            overdueFlag := s.zone.overdueFlag || x.overdueHead }
      ∧ t.port = s.port.posted x.actions
      ∧ t.mill = { s.mill with queue := s.mill.queue ++ x.frames, slots := t.mill.slots }
      ∧ s.linesFormed t ((if x.overdueHead then 1#8 else 0#8) ||| (if x.removed then 2#8 else 0#8))
      ∧ t.strobe = (if x.cut then some (s.now + dt + s.startup.config.strobeWidth) else s.strobe))
  ∧ ∀ (dt : Nat) (s : State) (ahead behind : List FeatureRecord) (r : FeatureRecord), s.startup.station = .tracking →
      s.zone.queue = ahead ++ r :: behind → r.kind = .join → s.mill.queue.length + 2 ≤ 8 →
      s.port.actions.length + ahead.length + 1 ≤ 16 →
      let z := BitVec.ofNat 48
        (s.travel.z.toNat + (s.startup.config.pitch * (65536 + s.slip.code) + s.travel.r) / 65536)
      let th := s.zone.thresholds
      let p := r.position z
      (∀ q ∈ ahead ++ behind, q.position z ≤ 2 ^ 47 ∧ (q.state = .travelling → q.position z < th.endOfZone)
        ∧ (q.state = .due ∨ q.state = .passed → q.position z < th.late)) →
      p ≤ 2 ^ 47 →
      let age : Option AgeCount := some { base := 0, since := s.now + dt }
      let overrun := min 65535 ((p - th.endOfZone) / 1024000)
      let pass : QueuedFrame := { body := .pass r.serial r.tag (r.origin == .lapsed), age := age, flying := false }
      let lapse : QueuedFrame := { body := .lapse r.serial r.tag (r.origin == .lapsed) overrun, age := age, flying := false }
      let report (kind : ActionKind) (up : Bool) : Action :=
        { kind := kind, serial := r.serial, feature := 3#8, tag := tagCode r.tag, upEstimated := up,
          value := BitVec.ofNat 16 overrun }
      let passes := r.state = .travelling ∧ th.endOfZone ≤ p
      let lapses := (passes ∨ r.state = .passed) ∧ th.late ≤ p
      ∃ t, exec (.encoderPulse dt) s = .next t
        ∧ (s.startup.straps.last = false → passes → ¬ lapses →
            t.zone = { s.zone with queue := ahead ++ { r with state := .passed } :: behind }
              ∧ t.mill = { s.mill with queue := s.mill.queue ++ [pass] } ∧ t.port = s.port ∧ t.lines = s.lines
              ∧ t.strobe = s.strobe)
        ∧ (s.startup.straps.last = false → lapses →
            t.zone = { s.zone with queue := behind }
              ∧ t.mill
                = { s.mill with
                    queue := s.mill.queue ++ (if r.state = .passed then [lapse] else [pass, lapse])
                    slots := t.mill.slots }
              ∧ t.port = s.port.posted (ahead.map (handed z 2#2 false) ++ [report .lapsed false])
              ∧ s.threadFollows t ∧ t.strobe = s.strobe)
        ∧ (s.startup.straps.last = true → passes →
            t.zone = { s.zone with queue := behind } ∧ t.mill = { s.mill with slots := t.mill.slots }
              ∧ t.port = s.port.posted (ahead.map (handed z 2#2 false) ++ [report .cut (r.origin == .lapsed)])
              ∧ s.threadFollows t ∧ t.strobe = some (s.now + dt + s.startup.config.strobeWidth))
        ∧ (¬ passes → (s.startup.straps.last = false → ¬ lapses) →
            t.zone = s.zone ∧ t.mill = s.mill ∧ t.port = s.port ∧ t.lines = s.lines ∧ t.strobe = s.strobe)

/-- A counted pulse keeps the order of the zone queue and holds every record at or below the position ceiling, whatever the
zone holds (R3, R30); and so does every other event, whatever it enters into the zone or takes out of it, while the LOAD latch
and the start-of-frame latch with the largest back-projection lie within the ceiling behind the strip travel. -/
def Obligations.PulseKeepsOrder : Prop :=
  (∀ (dt : Nat) (s t : State), s.InRange → inOrder s.travel.z s.zone.queue → belowCeiling s.travel.z s.zone.queue →
    exec (.encoderPulse dt) s = .next t →
    inOrder t.travel.z t.zone.queue ∧ belowCeiling t.travel.z t.zone.queue)
  ∧ ∀ (c : Instr) (s t : State), s.InRange → s.Quiet →
    inOrder s.travel.z s.zone.queue → belowCeiling s.travel.z s.zone.queue →
    (∀ l : EdgeLatch, s.sensing.load = .qualRise l ∨ s.sensing.load = .qualFall l →
      (s.travel.z - l.z).toNat ≤ 2 ^ 47) →
    (s.travel.z - s.mill.sof.z).toNat + 65535 * s.mill.sof.aLast ≤ 2 ^ 47 →
    exec c s = .next t →
    inOrder t.travel.z t.zone.queue ∧ belowCeiling t.travel.z t.zone.queue

/-- The entry procedure of every entry path (R4 to R7, R10, R11; THREAD once, at its end, log entry 25): a duplicate enters
with serial 0, a record that would stand ahead of the youngest takes the youngest's entry values, a kind out of order is
entered with FAULT SEQUENCE, a full queue loses its front with FAULT ZONE_FULL, the overdue/zone-full flag and TRIP, the
record stands youngest with THREAD brought up to date, the other lines stand, and the queue stays in order. -/
def Obligations.EntryProcedure : Prop :=
  ∀ (s : State) (r : FeatureRecord), s.port.actions.length + (s.entryFaults r).length ≤ 16 →
    s.startup.station = .tracking →
    let full := 6 ≤ s.zone.queue.length
    let t := s.enterZone r
    t.zone
        = { s.zone with
            queue := (if full then s.zone.queue.tail else s.zone.queue) ++ [s.entryRecord r]
            overdueFlag := s.zone.overdueFlag || decide full }
    ∧ t.port = s.port.posted (s.entryFaults r)
    ∧ s.linesFormed t (if full then 3#8 else 2#8) ∧ (full → t.contributions.getLsbD 0 = true)
    ∧ (inOrder s.travel.z s.zone.queue → inOrder t.travel.z t.zone.queue)
    ∧ t.travel = s.travel ∧ t.sensing = s.sensing ∧ t.handoff = s.handoff ∧ t.mill.queue = s.mill.queue
    ∧ t.copies = s.copies


/-! ### Stand sensing -/

/-- LOAD_EDGE and EXIT_EDGE (R39, R40, R41, R42, R47): an edge starts a qualification with the values of this moment, abandons
one and counts it, or ends a wait, by the detector's state; a running bite inhibit blinds LOAD and not EXIT; and nothing else
changes. A level that has been held for longer than the qualify time when the edge comes has first delivered its event, and the
edge then finds what that leaves (log entry 2). An input that stands at its level already makes no edge (log entry 4). -/
def Obligations.SensorEdges : Prop :=
  ∀ (dt : Nat) (level : Bool) (s : State),
    let latch : EdgeLatch := { w := s.travel.w, z := s.travel.z, time := s.now + dt }
    let moved (d e : Detector) (failed : Bool) : Prop :=
      (d = .dormant ∧ e = .dormant ∧ failed = false)
        ∨ (d = .armedLow ∧ e = (if level then .qualRise latch else .armedLow) ∧ failed = false)
        ∨ (d = .armedHigh ∧ e = (if level then .armedHigh else .qualFall latch) ∧ failed = false)
        ∨ (∃ l, d = .qualRise l ∧ e = (if level then .qualRise l else .armedLow) ∧ failed = !level)
        ∨ (∃ l, d = .qualFall l ∧ e = (if level then .armedHigh else .qualFall l) ∧ failed = level)
        ∨ (d = .waitLow ∧ e = (if level then .waitLow else .armedLow) ∧ failed = false)
    let count (failed : Bool) : Count16 := if failed then satInc16 s.sensing.qualifyFail else s.sensing.qualifyFail
    (s.pins.load = level → exec (.loadEdge dt level) s = .next { s with now := s.now + dt })
    ∧ (s.pins.load ≠ level → s.overdue s.sensing.load (s.now + dt) →
        ∃ v, exec (.qualificationExpiry .load) s = .next v
          ∧ exec (.loadEdge dt level) s = exec (.loadEdge (s.now + dt - v.now) level) v)
    ∧ (s.pins.load ≠ level → s.sensing.inhibit ≠ none → ¬ s.overdue s.sensing.load (s.now + dt) →
        exec (.loadEdge dt level) s = .next { s with now := s.now + dt, pins := { s.pins with load := level } })
    ∧ (s.pins.load ≠ level → s.sensing.inhibit = none → ¬ s.overdue s.sensing.load (s.now + dt) →
        ∃ e failed, moved s.sensing.load e failed ∧ exec (.loadEdge dt level) s
          = .next
              { s with
                now := s.now + dt, pins := { s.pins with load := level }
                sensing := { s.sensing with load := e, qualifyFail := count failed } })
    ∧ (s.pins.exit = level → exec (.exitEdge dt level) s = .next { s with now := s.now + dt })
    ∧ (s.pins.exit ≠ level → s.overdue s.sensing.exit (s.now + dt) →
        ∃ v, exec (.qualificationExpiry .exit) s = .next v
          ∧ exec (.exitEdge dt level) s = exec (.exitEdge (s.now + dt - v.now) level) v)
    ∧ (s.pins.exit ≠ level → ¬ s.overdue s.sensing.exit (s.now + dt) → ∃ e failed, moved s.sensing.exit e failed ∧
        exec (.exitEdge dt level) s
          = .next
              { s with
                now := s.now + dt, pins := { s.pins with exit := level }
                sensing := { s.sensing with exit := e, qualifyFail := count failed } })

/-- A bite (HEAD) or release (TAIL) qualified at a station that is not the entry station, with the values of its first edge
(R41, R44, R60 to R67): the first expectation of its kind is consumed and those ahead are skipped, or an anonymous tag is
issued; the record enters by R4 to R7 (log entry 25) with their FAULTs behind the SKIPPED actions; OFFER, unless this is the
exit station, and TAKE are queued with the serial as this path has it, the TAKE's age counting from the edge; BITE or TAILOUT
is posted behind the FAULTs; and the last take is set. The event comes at the qualify time after the edge, or at the time base
of then where that stands later (DESIGN CHOICE, log entry 2). -/
def Obligations.QualifiedTakeDownTheTrain : Prop :=
  ∀ (kind : FeatureKind) (l : EdgeLatch) (s : State), s.startup.station = .tracking → s.startup.straps.first = false →
    (kind = .head ∧ s.sensing.load = .qualRise l) ∨ (kind = .tail ∧ s.sensing.load = .qualFall l) →
    s.mill.queue.length + 2 ≤ 8 →
    let d : State :=
      { s with
        now := max s.now (l.time + s.startup.config.qualify)
        sensing := { s.sensing with load := if kind = .head then .armedHigh else .armedLow } }
    let record (serial : Serial) (tag : Option SetTag) (anon : Byte) : FeatureRecord :=
      { serial := serial, kind := kind, tag := tag, anon := anon, entryW := l.w, entryZ := l.z, origin := .bite,
        state := .travelling, learnable := kind == .head }
    let take (serial : Serial) (anon : Byte) : QueuedFrame :=
      { body := .take serial kind anon, age := some { base := 0, since := l.time }, flying := false }
    let frames (serial : Serial) (tag : Option SetTag) (anon : Byte) : List QueuedFrame :=
      offerFrame s.startup.straps.last serial kind tag ++ [take serial anon]
    (∀ (ahead behind : List Expectation) (e : Expectation), s.handoff.expectations = ahead ++ e :: behind →
      (∀ x ∈ ahead, x.kind ≠ kind) → e.kind = kind →
      let tag := if kind = .tail then none else e.tag
      let r := record e.serial tag 0#8
      s.port.actions.length + ahead.length + (s.entryFaults r).length + 1 ≤ 16 →
      ∃ t, exec (.qualificationExpiry .load) s = .next t
        ∧ d.Entered t r (frames e.serial tag 0#8) tag (ahead.map skipped)
            [takeReport kind e.serial tag (s.port.flagFor tag) false 0#8]
        ∧ t.handoff
          = { s.handoff with expectations := behind, lastTake := some { serial := e.serial, kind := kind } }
        ∧ t.sensing = d.sensing ∧ t.now = d.now ∧ t.entry = s.entry ∧ t.strobe = s.strobe)
    ∧ ((∀ x ∈ s.handoff.expectations, x.kind ≠ kind) →
      let anon : Byte := if s.handoff.anonCounter = 255#8 then 1#8 else s.handoff.anonCounter + 1#8
      let r := record 0#16 none anon
      s.port.actions.length + (s.entryFaults r).length + 1 ≤ 16 →
      ∃ t, exec (.qualificationExpiry .load) s = .next t
        ∧ d.Entered t r (frames 0#16 none anon) none [] [takeReport kind 0#16 none .na false anon]
        ∧ t.handoff
          = { s.handoff with anonCounter := anon, lastTake := some { serial := 0#16, kind := kind } }
        ∧ t.sensing = d.sensing ∧ t.now = d.now ∧ t.entry = s.entry ∧ t.strobe = s.strobe)

/-- The entry station (R44, R45, R107, R108, R109): a bite and a join strobe consume the front bar, enter it as a HEAD or a
JOIN, post FAULT ENTRY_MISMATCH where it was announced the other way, and for a strobe on an empty list FAULT
JOIN_UNANNOUNCED; a release takes the serial of the youngest HEAD in the zone; the OFFER is queued unless this is a
single-station train, with the serial as this path has it; BITE, SWITCH with a STROBE pulse, or TAILOUT is posted, behind the
FAULTs of R4 to R7 (log entry 25); and no TAKE is queued and the hand-off unit stands. A bite or a release comes at the qualify
time after its edge, or at the time base of then where that stands later (DESIGN CHOICE, log entry 2). Outside TRACKING and at
other stations a join strobe leaves no trace. -/
def Obligations.EntersTheTrain : Prop :=
  ∀ (dt : Nat) (s : State),
    (¬ (s.startup.straps.first = true ∧ s.startup.station = .tracking) →
      exec (.joinStrobe dt) s = .next { s with now := s.now + dt })
    ∧ (s.startup.straps.first = true → s.startup.station = .tracking → s.mill.queue.length + 1 ≤ 8 →
      let serial : Serial := match s.entry.bars with | [] => 0#16 | b :: _ => b.serial
      let tag : Option SetTag := match s.entry.bars with | [] => none | b :: _ => b.tag
      let mismatch (kind : FeatureKind) : List Action :=
        match s.entry.bars with
        | [] =>
          if kind = .join then [{ kind := .fault, serial := 0#16, feature := 3#8, tag := 255#8, value := 9#16 }] else []
        | b :: _ =>
          if b.joined = (kind == .join) then []
          else [{ kind := .fault, serial := b.serial, feature := kind.code, tag := tagCode b.tag, value := 10#16 }]
      let last := s.startup.straps.last
      (∀ l : EdgeLatch, s.sensing.load = .qualRise l →
        let r : FeatureRecord :=
          { serial := serial, kind := .head, tag := tag, anon := 0#8, entryW := l.w, entryZ := l.z, origin := .bite,
            state := .travelling, learnable := true }
        let d : State := { s with now := max s.now (l.time + s.startup.config.qualify) }
        s.port.actions.length + (s.entryFaults r).length + 2 ≤ 16 →
        ∃ t, exec (.qualificationExpiry .load) s = .next t
          ∧ d.Entered t r (offerFrame last serial .head tag) tag []
              (mismatch .head ++ [takeReport .head serial tag (s.port.flagFor tag) false 0#8])
          ∧ t.entry = { bars := s.entry.bars.tail } ∧ t.handoff = s.handoff ∧ t.now = d.now ∧ t.strobe = s.strobe
          ∧ t.sensing = { s.sensing with load := .armedHigh })
      ∧ (∀ l : EdgeLatch, s.sensing.load = .qualFall l →
        let name : Serial := match (s.zone.queue.filter (fun q => q.kind == .head)).getLast? with
          | none => 0#16
          | some q => q.serial
        let r : FeatureRecord :=
          { serial := name, kind := .tail, tag := none, anon := 0#8, entryW := l.w, entryZ := l.z, origin := .bite,
            state := .travelling, learnable := false }
        let d : State := { s with now := max s.now (l.time + s.startup.config.qualify) }
        s.port.actions.length + (s.entryFaults r).length + 1 ≤ 16 →
        ∃ t, exec (.qualificationExpiry .load) s = .next t
          ∧ d.Entered t r (offerFrame last name .tail none) none [] [takeReport .tail name none .na false 0#8]
          ∧ t.entry = s.entry ∧ t.handoff = s.handoff ∧ t.now = d.now ∧ t.strobe = s.strobe
          ∧ t.sensing = { s.sensing with load := .armedLow })
      ∧ (let r : FeatureRecord :=
          { serial := serial, kind := .join, tag := tag, anon := 0#8, entryW := s.travel.w, entryZ := s.travel.z,
            origin := .entry, state := .travelling, learnable := false }
        s.port.actions.length + (s.entryFaults r).length + 2 ≤ 16 →
        ∃ t, exec (.joinStrobe dt) s = .next t
          ∧ s.Entered t r (offerFrame last serial .join tag) tag []
              (mismatch .join
                ++ [{ kind := .switch, serial := serial, feature := 3#8, tag := tagCode tag,
                      ready := s.port.flagFor tag }])
          ∧ t.entry = { bars := s.entry.bars.tail } ∧ t.handoff = s.handoff ∧ t.now = s.now + dt
          ∧ t.strobe = some (s.now + dt + s.startup.config.strobeWidth) ∧ t.sensing = s.sensing))

/-- A qualified exit-rise (HEAD) or exit-fall (TAIL) (R41, R44, R112, R113, R96, R9): the front-most record of the kind
leaves with those ahead of it, HANDED IMPLIED is posted for each of these and EXIT_HEAD or EXIT_TAIL for it, an early take is
counted, and a learnable HEAD gives a slip sample with the W of the first edge; with no such record FAULT EXIT_UNEXPECTED is
posted and nothing leaves. The event comes at the qualify time after the edge, or at the time base of then where that stands
later (DESIGN CHOICE, log entry 2). -/
def Obligations.ExitGateTakes : Prop :=
  ∀ (kind : FeatureKind) (l : EdgeLatch) (s : State), s.startup.station = .tracking →
    (kind = .head ∧ s.sensing.exit = .qualRise l) ∨ (kind = .tail ∧ s.sensing.exit = .qualFall l) →
    let d : State :=
      { s with
        now := max s.now (l.time + s.startup.config.qualify)
        sensing := { s.sensing with exit := if kind = .head then .armedHigh else .armedLow } }
    ((∀ q ∈ s.zone.queue, q.kind ≠ kind) → s.port.actions.length + 1 ≤ 16 →
      exec (.qualificationExpiry .exit) s
        = .next
            { d with
              port :=
                s.port.posted [{ kind := .fault, serial := 0#16, feature := kind.code, tag := 255#8, value := 8#16 }] })
    ∧ ∀ (ahead behind : List FeatureRecord) (r : FeatureRecord), s.zone.queue = ahead ++ r :: behind →
      (∀ q ∈ ahead, q.kind ≠ kind) → r.kind = kind → s.port.actions.length + ahead.length + 1 ≤ 16 →
      let early := r.state == .travelling
      ∃ t, exec (.qualificationExpiry .exit) s = .next t
        ∧ t = { d with
                zone :=
                  { s.zone with
                    queue := behind
                    earlyTakes := if early then satInc16 s.zone.earlyTakes else s.zone.earlyTakes }
                port :=
                  s.port.posted
                    (ahead.map (handed s.travel.z 2#2 false)
                      ++ [{ kind := if kind = .head then .exitHead else .exitTail, serial := r.serial,
                            feature := kind.code, tag := if kind = .tail then 255#8 else tagCode r.tag, early := early,
                            value := millimetres s.travel.z r }])
                slip :=
                  if kind = .head ∧ r.learnable = true then
                    s.slip.sample s.startup.config.zoneLength s.startup.config.gain .exit r.serial
                      (l.w - r.entryW).toNat
                  else s.slip
                lines := { s.lines with line := t.lines.line }
                mill := { s.mill with slots := t.mill.slots } }
        ∧ s.threadFollows t

/-- BITE_INHIBIT_EXPIRY (R49): the countdown stops and the LOAD detector takes the state of the table; with LOAD high and a
HEAD expected a bite with inhibited = yes is delivered with the travel of this moment, at the entry station for an unjoined
front bar and elsewhere for a front expectation that is a HEAD, and enters by R4 to R7 (log entry 25); otherwise nothing else
happens. While the countdown runs the detector is armed or waiting. A countdown that is not running has no expiry (log entry
2). -/
def Obligations.InhibitExpiry : Prop :=
  ∀ s : State,
    (s.sensing.inhibit = none → exec .biteInhibitExpiry s = .next s)
    ∧ ∀ deadline, s.sensing.inhibit = some deadline →
      s.sensing.load = .armedLow ∨ s.sensing.load = .armedHigh ∨ s.sensing.load = .waitLow →
      let now := max s.now deadline
      let expected : Bool :=
        if s.startup.straps.first then (match s.entry.bars with | [] => false | b :: _ => !b.joined)
        else (match s.handoff.expectations with | [] => false | e :: _ => e.kind == .head)
      let load : Detector :=
        if s.pins.load = false then .armedLow
        else if s.sensing.load = .armedHigh ∨ expected = true then .armedHigh
        else .waitLow
      let d : State := { s with now := now, sensing := { s.sensing with inhibit := none, load := load } }
      let record (serial : Serial) (tag : Option SetTag) : FeatureRecord :=
        { serial := serial, kind := .head, tag := tag, anon := 0#8, entryW := s.travel.w, entryZ := s.travel.z,
          origin := .bite, state := .travelling, learnable := true }
      let bite (serial : Serial) (tag : Option SetTag) : Action :=
        takeReport .head serial tag (s.port.flagFor tag) true 0#8
      let last := s.startup.straps.last
      (s.pins.load = false ∨ expected = false → exec .biteInhibitExpiry s = .next d)
      ∧ (s.pins.load = true → s.startup.station = .tracking → s.mill.queue.length + 2 ≤ 8 →
        (s.startup.straps.first = false → ∀ (e : Expectation) (behind : List Expectation),
          s.handoff.expectations = e :: behind → e.kind = .head →
          s.port.actions.length + (s.entryFaults (record e.serial e.tag)).length < 16 →
          ∃ t, exec .biteInhibitExpiry s = .next t
            ∧ d.Entered t (record e.serial e.tag)
                (offerFrame last e.serial .head e.tag
                  ++ [{ body := .take e.serial .head 0#8, age := some { base := 0, since := now }, flying := false }])
                e.tag [] [bite e.serial e.tag]
            ∧ t.handoff
              = { s.handoff with expectations := behind, lastTake := some { serial := e.serial, kind := .head } }
            ∧ t.sensing = d.sensing ∧ t.now = now ∧ t.entry = s.entry ∧ t.strobe = s.strobe)
        ∧ (s.startup.straps.first = true → ∀ (b : Bar) (rest : List Bar), s.entry.bars = b :: rest → b.joined = false →
          s.port.actions.length + (s.entryFaults (record b.serial b.tag)).length < 16 →
          ∃ t, exec .biteInhibitExpiry s = .next t
            ∧ d.Entered t (record b.serial b.tag) (offerFrame last b.serial .head b.tag) b.tag []
                [bite b.serial b.tag]
            ∧ t.entry = { bars := rest } ∧ t.handoff = s.handoff ∧ t.sensing = d.sensing ∧ t.now = now
            ∧ t.strobe = s.strobe))

/-! ### The mill line -/

/-- The receiver (R33, R135, R138, R139, R145): a dominant bit in READY starts a frame and latches the travel of this moment,
in the other states it only ends the idle count; eleven recessive bits make HUNT READY, and a receiver that has sent the last
CRC bit of an own frame reads its end on the way and is READY as well (R138; log entry 11); and a frame of another station
that is not valid raises exactly the count of its verdict and sends the receiver to HUNT. A frame of the station's own attempt
is not checked, its end after the last CRC bit not either, and raises no count (R136, R139). Bits that spell no invalid frame,
and bits while no frame of another station is being read, make no event (log entry 4), and the idle count is not followed
between events (log entry 10). -/
def Obligations.ReceiverEvents : Prop :=
  ∀ (dt : Nat) (s : State),
    let mill (m : MillLine) : State := { s with now := s.now + dt, mill := m }
    let latch : SofLatch :=
      { w := s.travel.w, z := s.travel.z, tp := s.travel.tp, aLast := s.travel.aLast, time := s.now + dt }
    (s.mill.rx = .ready →
      exec (.startOfFrame dt) s = .next (mill { s.mill with rx := .receiving, ownTail := false, idle := 0, sof := latch }))
    ∧ (s.mill.rx ≠ .ready → exec (.startOfFrame dt) s = .next (mill { s.mill with idle := 0 }))
    ∧ (s.mill.rx = .hunt → exec (.lineIdle dt) s = .next (mill { s.mill with rx := .ready, idle := 11 }))
    ∧ (s.mill.rx = .receiving → s.mill.ownTail = true →
        exec (.lineIdle dt) s = .next (mill { s.mill with rx := .ready, ownTail := false, idle := 11 }))
    ∧ (s.mill.rx = .ready ∨ (s.mill.rx = .receiving ∧ s.mill.ownTail = false) →
        exec (.lineIdle dt) s = .next (mill s.mill))
    ∧ ∀ bits : List Bool,
      let m := { s.mill with rx := .hunt, idle := 0 }
      let m' := { s.mill with rx := .hunt, idle := 6 }
      let judged (v : Verdict) (n : MillLine) : Prop :=
        judgeLine bits = v → exec (.frameInvalid dt bits) s = .next (mill n)
      (s.mill.rx ≠ .receiving ∨ s.mill.flight ≠ none ∨ s.mill.ownTail = true →
        exec (.frameInvalid dt bits) s = .next (mill s.mill))
      ∧ (s.mill.rx = .receiving → s.mill.flight = none → s.mill.ownTail = false →
        judged .stuffing { m with rxErrors := satInc16 s.mill.rxErrors }
          ∧ judged .overlong { m with overlong := satInc16 s.mill.overlong }
          ∧ judged .notWholeByte { m' with rxErrors := satInc16 s.mill.rxErrors }
          ∧ judged .tooShort { m' with rxErrors := satInc16 s.mill.rxErrors }
          ∧ judged .crcFailed { m' with rxErrors := satInc16 s.mill.rxErrors }
          ∧ judged .unknownKind { m' with unknownKinds := satInc16 s.mill.unknownKinds }
          ∧ judged .badLength { m' with rxErrors := satInc16 s.mill.rxErrors }
          ∧ judged .incomplete s.mill
          ∧ ∀ header payload, judged (.valid header payload) s.mill)

/-- ATTEMPT (R142, R144, R120, R32, R33): in CLAIMING, PLACED, TRACKING and PARKED with the line idle, the filled slot with
the earliest filling time goes first, with the order RAISE, VETO, ASK, DROP for times equal in whole µs (log entry 14), and
its mask is taken out; then the urgent frame queued earliest; then the routine one; a frame keeps its place and is in flight,
with the header and the payload of section 9.6.1 and its age stamped. With nothing waiting, or in another state, nothing is
driven. -/
def Obligations.AttemptSendsFirst : Prop :=
  ∀ (dt : Nat) (s : State),
    let ready :=
      (s.startup.station = .claiming ∨ s.startup.station.operating = true) ∧ s.mill.rx = .ready ∧ s.mill.flight = none
    let filled (k : LineKind) : Prop := (s.mill.slots.get k).mask ≠ 0#8
    let rank (k : LineKind) : Nat := match k with | .raise => 0 | .veto => 1 | .ask => 2 | .drop => 3
    let started : MillLine :=
      { s.mill with
        rx := .receiving, ownTail := false, idle := 0
        sof := { w := s.travel.w, z := s.travel.z, tp := s.travel.tp, aLast := s.travel.aLast, time := s.now + dt } }
    let header (kind : LineKind) : Byte :=
      BitVec.ofNat 8
        ((s.startup.position - 1) * 16 + match kind with | .raise => 8 | .ask => 9 | .veto => 10 | .drop => 11)
    let place (f : QueuedFrame) (queue : List QueuedFrame) : State :=
      let age := match f.age with | none => 0 | some a => min 65535 (a.base + (s.now + dt - a.since))
      { s with
        now := s.now + dt
        mill :=
          { started with
            queue := queue
            flight := some
              { source := .place f.body
                wire := frameLine (sentContent s.startup.position (BitVec.ofNat 16 age) f.body) } } }
    (¬ ready → exec (.attempt dt) s = .next { s with now := s.now + dt })
    ∧ (ready → (∀ k, ¬ filled k) → s.mill.queue = [] → exec (.attempt dt) s = .next { s with now := s.now + dt })
    ∧ (ready → ∀ k, filled k →
        (∀ k', filled k' → (s.mill.slots.get k).filledAt ≤ (s.mill.slots.get k').filledAt
          ∧ ((s.mill.slots.get k').filledAt = (s.mill.slots.get k).filledAt → rank k ≤ rank k')) →
        exec (.attempt dt) s
          = .next
              { s with
                now := s.now + dt
                mill :=
                  { started with
                    slots := s.mill.slots.modify k (fun _ => Slot.empty)
                    flight := some
                      { source := .slot k (s.mill.slots.get k).mask (s.mill.slots.get k).filledAt
                        wire := frameLine [header k, (s.mill.slots.get k).mask] } } })
    ∧ (ready → (∀ k, ¬ filled k) → ∀ (ahead behind : List QueuedFrame) (f : QueuedFrame),
        s.mill.queue = ahead ++ f :: behind →
        ((∀ g ∈ ahead, routineFrame g.body = true) ∧ routineFrame f.body = false)
          ∨ (ahead = [] ∧ ∀ g ∈ s.mill.queue, routineFrame g.body = true) →
        exec (.attempt dt) s = .next (place f (ahead ++ { f with flying := true } :: behind)))

/-- FRAME_SENT (R136, R144, R123, R129): a frame of a place leaves its place; a train-line frame's lines leave its slot where
they stand in it again and take the effects of their kind, TL0 posting TRIP_ON or TRIP_OFF with the own position when its
copy changes; the other lines, the zone and the hand-off unit stand. The receiver reads on to the end of the frame (R138;
DEDUCED, log entry 11). Without an attempt there is no such event (log entry 4). -/
def Obligations.FrameSentEffects : Prop :=
  ∀ (dt : Nat) (s : State),
    (s.mill.flight = none → exec (.frameSent dt) s = .next { s with now := s.now + dt })
    ∧ ∀ f, s.mill.flight = some f →
      let idle := min 11 (f.wire.reverse.takeWhile id).length
      let ended : MillLine := { s.mill with rx := .receiving, ownTail := true, idle := idle, flight := none }
      (∀ body, f.source = .place body → (body.isClaim = false ∨ s.startup.station ≠ .claiming) →
        exec (.frameSent dt) s
          = .next
              { s with now := s.now + dt, mill := { ended with queue := s.mill.queue.filter (fun g => !g.flying) } })
      ∧ ∀ (kind : LineKind) (m : LineMask) (filledAt : Nat), f.source = .slot kind m filledAt →
        s.port.actions.length < 16 → s.startup.position ≤ 8 →
        let window :=
          if s.startup.straps.rate1 then 250 else if s.startup.straps.rate0 then 500 else 1000
        let changes :=
          m.getLsbD 0 = true
            ∧ ((kind = .raise ∧ s.lines.line.l0.copy = false) ∨ (kind = .drop ∧ s.lines.line.l0.copy = true))
        let trip : Action :=
          { kind := if kind = .raise then .tripOn else .tripOff, value := BitVec.ofNat 16 s.startup.position }
        ∃ t, exec (.frameSent dt) s = .next t
          ∧ State.onlyLines
              { s with
                now := s.now + dt, mill := ended, port := s.port.posted (if changes then [trip] else []) } t
          ∧ (∀ n : Fin 8,
              t.view n = if m.getLsbD n = true then (s.view n).sent (s.now + dt + window) kind else s.view n)
          ∧ s.slotsTimed t

/-- ARBITRATION_LOST and BIT_ERROR (R120, R135, R136, R142, R144, R145, R148): after a lost arbitration the station receives,
nothing is counted, a frame of a place stays in it and the lines of a train-line frame that still call for it return to their
slot, with their filling time; after a bit error the transmit-error count rises, the receiver hunts with the idle count that
the bits read have left (R135; 11 when the start of frame itself was read recessive, log entry 24), a frame of a place is
discarded (a CLAIM lost in CLAIMING is queued again), and lines return likewise. A mismatch that the attempt cannot show makes
no event (log entry 4). -/
def Obligations.AttemptsThatFail : Prop :=
  ∀ (dt : Nat) (s : State) (f : Flight), s.mill.flight = some f →
    let recessiveIn := true ∈ (f.wire.drop 1).take 4
    let lost : MillLine := { s.mill with rx := .receiving, idle := 0, flight := none }
    let error (bit : Nat) : Prop :=
      bit < f.wire.length ∧ ¬ (f.wire.getD bit false = true ∧ 1 ≤ bit ∧ bit ≤ 4)
    let failed (idle : Nat) : MillLine :=
      { s.mill with rx := .hunt, idle := idle, flight := none, txErrors := satInc16 s.mill.txErrors }
    (¬ recessiveIn → exec (.arbitrationLost dt) s = .next { s with now := s.now + dt })
    ∧ (recessiveIn → (∀ body, f.source = .place body →
        exec (.arbitrationLost dt) s
          = .next
              { s with
                now := s.now + dt
                mill := { lost with queue := s.mill.queue.map (fun g => { g with flying := false }) } })
      ∧ ∀ (kind : LineKind) (m : LineMask) (filledAt : Nat), f.source = .slot kind m filledAt →
        ∃ t, exec (.arbitrationLost dt) s = .next t ∧ State.onlyLines { s with now := s.now + dt, mill := lost } t
          ∧ t.lines = s.lines ∧ s.linesReturned t kind m filledAt)
    ∧ ∀ bit, (¬ error bit → exec (.bitError dt bit) s = .next { s with now := s.now + dt })
      ∧ (error bit →
        let idle : Nat :=
          if f.wire.getD bit false = true then 0
          else if bit = 0 then 11
          else min 11 (((f.wire.take bit).reverse.takeWhile id).length + 1)
        (∀ body, f.source = .place body →
            let rest := s.mill.queue.filter (fun g => !g.flying)
            (body.isClaim = false ∨ s.startup.station ≠ .claiming →
              exec (.bitError dt bit) s = .next { s with now := s.now + dt, mill := { failed idle with queue := rest } })
            ∧ (body.isClaim = true → s.startup.station = .claiming → rest.length < 8 →
              exec (.bitError dt bit) s
                = .next
                    { s with
                      now := s.now + dt
                      mill :=
                        { failed idle with
                          queue :=
                            rest
                              ++ [{ body := .claim s.startup.position s.startup.straps.first s.startup.straps.last,
                                    age := none, flying := false }] } }))
        ∧ (∀ (kind : LineKind) (m : LineMask) (filledAt : Nat), f.source = .slot kind m filledAt →
            ∃ t, exec (.bitError dt bit) s = .next t
              ∧ State.onlyLines { s with now := s.now + dt, mill := failed idle } t ∧ t.lines = s.lines
              ∧ s.linesReturned t kind m filledAt))

/-- A frame handed to the transmit queue, and an action posted to the action queue. The frame (R143): a PACE takes the place
of the PACE that has one, in flight or not, and with the place its rank in the order of sending (DEDUCED, log entry 13);
otherwise a free place is taken by the youngest; with 8 places taken a routine frame is lost and counted, an urgent one
displaces the youngest routine frame not in flight, and without such a frame it is lost with FAULT TX_OVERFLOW. The action
(R160, R162): it stands youngest in a queue of fewer than 16; a 17th is discarded and the action-overflow count rises,
saturating at 255; the attention latch is set in both cases; several actions of one event are posted one after the other; and
nothing else changes. -/
def Obligations.TransmitQueueRule : Prop :=
  (∀ (s : State) (body : FrameBody) (age : Option AgeCount),
    let f : QueuedFrame := { body := body, age := age, flying := false }
    let queued (q : List QueuedFrame) : State := { s with mill := { s.mill with queue := q } }
    let overflows : MillLine := { s.mill with txOverflows := satInc16 s.mill.txOverflows }
    let lost (serial : Serial) (frame feature : Byte) : Action :=
      { kind := .fault, serial := serial, feature := frame, tag := feature, value := 4#16 }
    (body.isPace = true → ∀ (ahead behind : List QueuedFrame) (old : QueuedFrame),
      s.mill.queue = ahead ++ old :: behind → old.body.isPace = true →
      (∀ g ∈ ahead ++ behind, g.body.isPace = false) → s.enqueue body age = queued (ahead ++ f :: behind))
    ∧ ((body.isPace = true → ∀ g ∈ s.mill.queue, g.body.isPace = false) →
      (s.mill.queue.length < 8 → s.enqueue body age = queued (s.mill.queue ++ [f]))
      ∧ (s.mill.queue.length = 8 → routineFrame body = true → s.enqueue body age = { s with mill := overflows })
      ∧ (s.mill.queue.length = 8 → routineFrame body = false →
        (∀ (ahead behind : List QueuedFrame) (old : QueuedFrame), s.mill.queue = ahead ++ old :: behind →
          routineFrame old.body = true → old.flying = false →
          (∀ g ∈ behind, routineFrame g.body = false ∨ g.flying = true) →
          s.enqueue body age = { s with mill := { overflows with queue := ahead ++ behind ++ [f] } })
        ∧ ((∀ g ∈ s.mill.queue, routineFrame g.body = false ∨ g.flying = true) →
          s.enqueue body age
            = { s with
                mill := overflows
                port :=
                  s.port.taking
                    (match body with
                      | .take serial kind _ => lost serial 3#8 (kindByte kind)
                      | .pass serial _ _ => lost serial 4#8 3#8
                      | .lapse serial _ _ _ => lost serial 5#8 3#8
                      | .bind serial kind _ _ => lost serial 6#8 (kindByte kind)
                      | _ => lost 0#16 0#8 0#8) }))))
  ∧ (∀ (s : State) (a : Action), s.post a = { s with port := s.port.taking a })
  ∧ ∀ (s : State) (as : List Action), s.postAll as = { s with port := as.foldl Port.taking s.port }

/-- A valid frame of any kind from another station with the own position in PLACED, TRACKING or PARKED is a position clash
(R140, R14): FAULT POSITION_CLASH with the position in byte 3, then STOPPED; the transmit queue and the slots are empty, every
timer of R14 is stopped, qualifications and the countdown have ended, and everything else stands. A level on LOAD or EXIT that
has been held for longer than the qualify time has first delivered its event, the one of the earlier edge first (R41, R43; log
entry 2), and of two with one edge time the one on LOAD (DESIGN CHOICE, log entry 28). -/
def Obligations.PositionClashStops : Prop :=
  ∀ (c : Instr) (dt : Nat) (arb : Arbitration) (s : State), receivedFrame c = some (dt, arb) → s.reading = true →
    s.startup.station.operating = true → arb.position = s.startup.position →
    let load := s.overdue s.sensing.load (s.now + dt)
    let exit := s.overdue s.sensing.exit (s.now + dt)
    let after (input : StandInput) : Prop :=
      ∃ v, exec (.qualificationExpiry input) s = .next v
        ∧ exec c s = exec (.raiseReceived (s.now + dt - v.now) arb 0#8) v
    (load → (exit → edgeMoment s.sensing.load ≤ edgeMoment s.sensing.exit) → after .load)
    ∧ (exit → (load → edgeMoment s.sensing.exit < edgeMoment s.sensing.load) → after .exit)
    ∧ (¬ load → ¬ exit → s.port.actions.length < 16 →
        ∃ t, exec c s = .next t
          ∧ State.stops
              { s.delivered dt with
                port :=
                  s.port.posted
                    [{ kind := .fault, serial := 0#16, feature := BitVec.ofNat 8 arb.position, tag := 255#8,
                       value := 5#16 }] } t)


/-! ### Received frames -/

/-- Frames that a station does not act on (R13, R53, R70, R72, R84, R88, R93, R80, R139): while no frame of another station is
being read, the station's own among those not read, none is received (log entry 4); in STOPPED no frame acts, and in UNSET and
CLAIMING none but a CLAIM; in PLACED and PARKED an OFFER, PASS, LAPSE or BIND from own−1 is discarded and counted; a hand-off
frame from a position it is not expected from is ignored without a count, a PACE from own−1 at a station strapped FIRST and
from own+1 at one strapped LAST among them; a valid frame from a neighbour refreshes its record. -/
def Obligations.FramesNotActedOn : Prop :=
  ∀ (c : Instr) (dt : Nat) (arb : Arbitration) (s : State), receivedFrame c = some (dt, arb) →
    s.port.actions.length < 16 →
    let reading := s.mill.rx = .receiving ∧ s.mill.flight = none ∧ s.mill.ownTail = false
    let claim := match c with | .claimReceived _ _ _ _ => true | _ => false
    let fromAbove := match c with
      | .offerReceived _ _ _ _ _ => true
      | .passReceived _ _ _ _ _ _ => true
      | .lapseReceived _ _ _ _ _ _ _ => true
      | .bindReceived _ _ _ _ _ _ => true
      | _ => false
    let take := match c with | .takeReceived _ _ _ _ _ _ => true | _ => false
    let pace := match c with | .paceReceived _ _ _ _ _ => true | _ => false
    let d := s.delivered dt
    let ignored : State :=
      { d with handoff := s.refreshed arb d.now, port := s.port.posted (s.returnActions arb) }
    (¬ reading → exec c s = .next { s with now := s.now + dt })
    ∧ (reading → s.startup.station = .stopped ∨ (claim = false ∧ s.startup.station.operating = false) →
        exec c s = .next d)
    ∧ (reading → s.startup.station = .placed ∨ s.startup.station = .parked → fromAbove = true →
        arb.position + 1 = s.startup.position →
        exec c s
          = .next
              { ignored with
                handoff := { s.refreshed arb d.now with discarded := satInc16 s.handoff.discarded } })
    ∧ (reading → s.startup.station.operating = true → arb.position ≠ s.startup.position →
        (fromAbove = true ∧ arb.position + 1 ≠ s.startup.position)
          ∨ (take = true ∧ (arb.position ≠ s.startup.position + 1 ∨ s.startup.straps.last = true))
          ∨ (pace = true ∧ (arb.position + 1 ≠ s.startup.position ∨ s.startup.straps.first = true)
            ∧ (arb.position ≠ s.startup.position + 1 ∨ s.startup.straps.last = true)) →
        exec c s = .next ignored)

/-- A valid OFFER from own−1 in TRACKING (R53, R55, R56): a kind field that names none is counted as discarded; a duplicate
is ignored; a full list posts FAULT EXPECT_FULL; otherwise the expectation stands youngest and a HEAD or JOIN with a tag
posts PREPARE; a TAIL is taken without a tag; and the upstream record is refreshed. -/
def Obligations.OfferResult : Prop :=
  ∀ (dt : Nat) (arb : Arbitration) (serial : Serial) (kind tag : Byte) (s : State), s.reading = true →
    s.startup.station = .tracking → arb.position + 1 = s.startup.position → s.port.actions.length + 2 ≤ 16 →
    let d := s.delivered dt
    let h := s.refreshed arb d.now
    let c : Instr := .offerReceived dt arb serial kind tag
    let back := s.returnActions arb
    (kind ≠ 1#8 → kind ≠ 2#8 → kind ≠ 3#8 →
      exec c s
        = .next { d with handoff := { h with discarded := satInc16 s.handoff.discarded }, port := s.port.posted back })
    ∧ ∀ (k : FeatureKind) (label : Option SetTag), kind = k.code →
      (k = .tail ∨ tag = 255#8 → label = none) → (k ≠ .tail → ∀ n : SetTag, tag.toNat = n.val → label = some n) →
      let e : Expectation := { serial := serial, kind := k, tag := label }
      let duplicate := serial ≠ 0#16 ∧ ∃ x ∈ s.handoff.expectations, x.kind = k ∧ x.serial = serial
      (duplicate → exec c s = .next { d with handoff := h, port := s.port.posted back })
      ∧ (¬ duplicate → 6 ≤ s.handoff.expectations.length →
          exec c s
            = .next
                { d with
                  handoff := h
                  port :=
                    s.port.posted
                      ({ kind := .fault, serial := serial, feature := k.code, tag := tagCode label, value := 3#16 }
                        :: back) })
      ∧ (¬ duplicate → s.handoff.expectations.length < 6 →
          exec c s
            = .next
                { d with
                  handoff := { h with expectations := s.handoff.expectations ++ [e] }
                  port :=
                    s.port.posted
                      ((if label.isSome then
                          [{ kind := .prepare, serial := serial, feature := k.code, tag := tagCode label }]
                        else []) ++ back) })

/-- A valid TAKE from own+1 at a station that is not strapped LAST, in PLACED, TRACKING or PARKED (R72 to R77, R95, R69,
R34): an unusable kind is counted as discarded; a serial names its record, and serial 0 matches the front-most record of the
kind at or past the early window; that record leaves with those ahead of it, HANDED DIRECT or MATCHED after HANDED IMPLIED
for each of them; an early take is counted; a match of a named record queues a BIND; a learnable HEAD gives a slip sample
with the back-projected W unless the age is stale or the latched T_p stalled; a take that finds nothing is counted as
unmatched; and the downstream record is refreshed. -/
def Obligations.TakeResult : Prop :=
  ∀ (dt : Nat) (arb : Arbitration) (serial : Serial) (kind anon : Byte) (age : BitVec 16) (s : State),
    s.reading = true → s.startup.station.operating = true → s.startup.straps.last = false →
    arb.position = s.startup.position + 1 →
    let d := s.delivered dt
    let h := s.refreshed arb d.now
    let c : Instr := .takeReceived dt arb serial kind anon age
    let back := s.returnActions arb
    (kind ≠ 1#8 → kind ≠ 2#8 → kind ≠ 3#8 → s.port.actions.length < 16 →
      exec c s
        = .next { d with handoff := { h with discarded := satInc16 s.handoff.discarded }, port := s.port.posted back })
    ∧ ∀ k : FeatureKind, kind = k.code →
      let found (r : FeatureRecord) : Prop :=
        r.kind = k ∧ (serial ≠ 0#16 → r.serial = serial)
          ∧ (serial = 0#16 → s.zone.thresholds.early ≤ r.position s.travel.z)
      ((∀ q ∈ s.zone.queue, ¬ found q) → s.port.actions.length < 16 →
        exec c s
          = .next
              { d with handoff := { h with unmatched := satInc16 s.handoff.unmatched }, port := s.port.posted back })
      ∧ ∀ (ahead behind : List FeatureRecord) (r : FeatureRecord), s.zone.queue = ahead ++ r :: behind →
        (∀ q ∈ ahead, ¬ found q) → found r → s.port.actions.length + ahead.length + 2 ≤ 16 → s.mill.queue.length < 8 →
        let early := r.state == .travelling
        let cls : BitVec 2 := if serial = 0#16 then 1#2 else 0#2
        let arrival :=
          s.mill.sof.w - BitVec.ofNat 48 (age.toNat * s.startup.config.pitch / s.mill.sof.tp)
        ∃ t, exec c s = .next t
          ∧ t = { d with
                  handoff := h
                  zone :=
                    { s.zone with
                      queue := behind
                      earlyTakes := if early then satInc16 s.zone.earlyTakes else s.zone.earlyTakes }
                  port :=
                    s.port.posted (ahead.map (handed s.travel.z 2#2 false) ++ [handed s.travel.z cls early r] ++ back)
                  mill :=
                    { d.mill with
                      queue :=
                        s.mill.queue
                          ++ (if serial = 0#16 ∧ r.serial ≠ 0#16 then
                                [{ body := .bind r.serial r.kind r.tag anon, age := none, flying := false }]
                              else [])
                      slots := t.mill.slots }
                  slip :=
                    if k = .head ∧ r.learnable = true ∧ age ≠ 65535#16 ∧ s.mill.sof.tp ≠ 65535 then
                      s.slip.sample s.startup.config.zoneLength s.startup.config.gain .take r.serial
                        (arrival - r.entryW).toNat
                    else s.slip
                  lines := { s.lines with line := t.lines.line } }
          ∧ s.threadFollows t

/-- A slip sample (R97 to R101): a roll travel of 0 is rejected; otherwise Q is L × 1,024,000 × 65,536 ÷ R to the nearest
whole number with a half upward, the measured slip Q − 65,536 is rejected outside −8,192 to 24,576 and else clamped to 0 to
16,384, and S moves by Δ × g ÷ 16 to the nearest whole number with a half away from zero; the counts and the last-sample
record follow, and S stays between its old value and the clamped one. -/
def Obligations.SlipSampleRule : Prop :=
  ∀ (l : SlipLearner) (zoneLength gain roll : Nat) (source : SampleSource) (serial : Serial),
    l.code ≤ 16384 → gain ≤ 16 →
    let u := l.sample zoneLength gain source serial roll
    let record (m : Option Int) (o : SampleOutcome) (step : Int) (after : Nat) : Option Sample :=
      some { source := source, serial := serial, rollTravel := min 65535 (roll / 1024000), measured := m, outcome := o,
             step := step, codeAfter := after }
    (roll = 0 → u = { l with rejected := satInc16 l.rejected, last := record none .rejectedZero 0 l.code })
    ∧ ∀ q : Nat, 0 < roll →
      (let n := zoneLength * 1024000 * 65536
       2 * q * roll ≤ 2 * n + roll ∧ 2 * n + roll < 2 * (q + 1) * roll) →
      let m : Int := (q : Int) - 65536
      (m < -8192 ∨ 24576 < m →
        u = { l with rejected := satInc16 l.rejected, last := record (some m) .rejectedBand 0 l.code })
      ∧ (-8192 ≤ m → m ≤ 24576 →
        let clamped : Int := if m < 0 then 0 else if 16384 < m then 16384 else m
        let delta : Int := clamped - l.code
        ∀ step : Int,
          (2 * (16 * step.natAbs) ≤ 2 * (delta.natAbs * gain) + 16
            ∧ 2 * (delta.natAbs * gain) + 16 < 2 * (16 * (step.natAbs + 1))) →
          (0 < step → 0 < delta) → (step < 0 → delta < 0) →
          (u.code : Int) = l.code + step
            ∧ u = { code := u.code, samples := satInc16 l.samples, rejected := l.rejected,
                    last := record (some m) (if clamped = m then .accepted else .clamped) step u.code }
            ∧ min (l.code : Int) clamped ≤ u.code ∧ (u.code : Int) ≤ max (l.code : Int) clamped)

/-- A valid PASS or LAPSE from own−1 in TRACKING (R84 to R88, R34, R35, R52, R132): a LAPSE of a join that stands in the zone
or is the last take is ignored; otherwise the JOIN expectation of the serial is consumed and those ahead are skipped, or none
is, a JOIN enters with the back-projected event values, OFFER and TAKE are queued with the age counting on from the frame's,
SWITCH is posted with its lateness, STROBE pulses and the last take is set, the record entering by R4 to R7 (log entry 25)
with their FAULTs between the SKIPPED actions and the SWITCH, and the frames carrying the serial of the frame received; and
the upstream record is refreshed. -/
def Obligations.JoinsArrive : Prop :=
  ∀ (dt : Nat) (arb : Arbitration) (serial : Serial) (label flags : Byte) (overrun age : BitVec 16) (lapse : Bool)
    (s : State), s.reading = true → s.startup.station = .tracking → arb.position + 1 = s.startup.position →
    s.mill.queue.length + 2 ≤ 8 → s.port.actions.length < 16 →
    let c : Instr :=
      if lapse then .lapseReceived dt arb serial label flags overrun age else .passReceived dt arb serial label flags age
    let d := s.delivered dt
    let h := s.refreshed arb d.now
    let back := s.returnActions arb
    let known :=
      (∃ q ∈ s.zone.queue, q.kind = .join ∧ q.serial = serial)
        ∨ s.handoff.lastTake = some { serial := serial, kind := .join }
    let sof := s.mill.sof
    let rollBack := if sof.tp = 65535 then 0 else age.toNat * s.startup.config.pitch / sof.tp
    let stripBack := if sof.tp = 65535 then 0 else age.toNat * sof.aLast / sof.tp
    let lateness := (if lapse then overrun.toNat else 0) + stripBack / 1024000
    let record (tag : Option SetTag) : FeatureRecord :=
      { serial := serial, kind := .join, tag := tag, anon := 0#8, entryW := sof.w - BitVec.ofNat 48 rollBack,
        entryZ := sof.z - BitVec.ofNat 48 stripBack, origin := if lapse then .lapsed else .passed, state := .travelling,
        learnable := false }
    let take : QueuedFrame :=
      { body := .take serial .join 0#8, age := some { base := age.toNat, since := sof.time }, flying := false }
    let switch (tag : Option SetTag) : Action :=
      { kind := .switch, serial := serial, feature := 3#8, tag := tagCode tag, ready := s.port.flagFor tag,
        estimated := lapse, upEstimated := flags.getLsbD 0, value := BitVec.ofNat 16 (min 65535 lateness) }
    (lapse = true → known → exec c s = .next { d with handoff := h, port := s.port.posted back })
    ∧ ∀ (tag : Option SetTag) (ahead left : List Expectation), (lapse = false ∨ ¬ known) →
      (label = 255#8 → tag = none) → (∀ n : SetTag, label.toNat = n.val → tag = some n) →
      (let names (x : Expectation) : Prop := x.kind = .join ∧ x.serial = serial
       ((∀ x ∈ s.handoff.expectations, ¬ names x) ∧ ahead = [] ∧ left = s.handoff.expectations)
         ∨ ∃ e ∈ s.handoff.expectations, s.handoff.expectations = ahead ++ e :: left ∧ (∀ x ∈ ahead, ¬ names x) ∧ names e) →
      s.port.actions.length + ahead.length + (s.entryFaults (record tag)).length + 2 ≤ 16 →
      ∃ t, exec c s = .next t
        ∧ d.Entered t (record tag) (offerFrame s.startup.straps.last serial .join tag ++ [take]) tag
            (ahead.map skipped) ([switch tag] ++ back)
        ∧ t.handoff = { h with expectations := left, lastTake := some { serial := serial, kind := .join } }
        ∧ t.strobe = some (d.now + s.startup.config.strobeWidth) ∧ t.now = d.now ∧ t.sensing = s.sensing
        ∧ t.entry = s.entry

/-- A valid BIND from own−1 in TRACKING (R70, R71): the record that holds its anonymous tag takes its serial and set tag (a
TAIL none), loses the anonymous tag, keeps the rest, and BOUND is posted; nothing is bound by an unusable BIND, without such
a record, with another kind, or where another record holds the kind and serial; and the upstream record is refreshed. -/
def Obligations.BindResult : Prop :=
  ∀ (dt : Nat) (arb : Arbitration) (serial : Serial) (kind tag anon : Byte) (s : State), s.reading = true →
    s.startup.station = .tracking → arb.position + 1 = s.startup.position → s.port.actions.length + 2 ≤ 16 →
    let d := s.delivered dt
    let h := s.refreshed arb d.now
    let c : Instr := .bindReceived dt arb serial kind tag anon
    let back := s.returnActions arb
    (serial = 0#16 ∨ anon = 0#8 ∨ (kind ≠ 1#8 ∧ kind ≠ 2#8 ∧ kind ≠ 3#8) ∨ (∀ q ∈ s.zone.queue, q.anon ≠ anon) →
      exec c s = .next { d with handoff := h, port := s.port.posted back })
    ∧ ∀ (k : FeatureKind) (ahead behind : List FeatureRecord) (r : FeatureRecord) (label : Option SetTag),
      serial ≠ 0#16 → anon ≠ 0#8 → kind = k.code → s.zone.queue = ahead ++ r :: behind → r.anon = anon →
      (∀ q ∈ ahead, q.anon ≠ anon) →
      (k = .tail ∨ tag = 255#8 → label = none) → (k ≠ .tail → ∀ n : SetTag, tag.toNat = n.val → label = some n) →
      let other := ∃ q ∈ ahead ++ behind, q.kind = k ∧ q.serial = serial
      (r.kind ≠ k ∨ other → exec c s = .next { d with handoff := h, port := s.port.posted back })
      ∧ (r.kind = k → ¬ other →
          exec c s
            = .next
                { d with
                  handoff := h
                  zone :=
                    { s.zone with queue := ahead ++ { r with serial := serial, tag := label, anon := 0#8 } :: behind }
                  port :=
                    s.port.posted
                      ({ kind := .bound, serial := serial, feature := kind, tag := tagCode label,
                         value := anon.setWidth 16 } :: back) })

/-- A valid PACE from a neighbour's position in PLACED, TRACKING or PARKED (R80, R81, R82): the record is refreshed first (log
entry 12); an unusable PACE is counted as discarded; a usable one adds the counter gap and sets counter, condition code and
last take; and a last take of a nonzero serial reported by the downstream neighbour removes its record with those ahead of it,
all HANDED REPORTED, counted when early. -/
def Obligations.PaceResult : Prop :=
  ∀ (dt : Nat) (arb : Arbitration) (head : Byte) (serial : Serial) (kind : Byte) (s : State), s.reading = true →
    s.startup.station.operating = true → arb.position ≠ s.startup.position →
    let d := s.delivered dt
    let h := s.refreshed arb d.now
    let c : Instr := .paceReceived dt arb head serial kind
    let back := s.returnActions arb
    let up := s.startup.straps.first = false ∧ arb.position + 1 = s.startup.position
    let down := s.startup.straps.last = false ∧ arb.position = s.startup.position + 1
    let named := kind = 0#8 ∨ kind = 1#8 ∨ kind = 2#8 ∨ kind = 3#8
    let usable := head.toNat / 32 + 1 = arb.position ∧ named
    let counter : BitVec 2 := BitVec.ofNat 2 (head.toNat % 4)
    let updated (n : Neighbour) (last : Option TakeRef) : Neighbour :=
      { n with
        gaps :=
          match n.counter with
          | none => n.gaps
          | some k => BitVec.ofNat 8 (min 255 (n.gaps.toNat + (counter.toNat + 4 - k.toNat + 3) % 4))
        counter := some counter
        code := some (BitVec.ofNat 3 (head.toNat / 4 % 8))
        lastTake := last }
    ((up ∨ down) → ¬ usable → s.port.actions.length < 16 →
      exec c s
        = .next { d with handoff := { h with discarded := satInc16 s.handoff.discarded }, port := s.port.posted back })
    ∧ ∀ last : Option TakeRef,
      (kind = 0#8 → last = none) → (∀ k : FeatureKind, kind = k.code → last = some { serial := serial, kind := k }) →
      usable →
      (up → s.port.actions.length < 16 →
        exec c s = .next { d with handoff := { h with up := updated h.up last }, port := s.port.posted back })
      ∧ (down → s.port.actions.length + s.zone.queue.length + 1 ≤ 16 →
        ((kind = 0#8 ∨ serial = 0#16 ∨ ∀ q ∈ s.zone.queue, ¬ (q.kind.code = kind ∧ q.serial = serial)) →
          exec c s = .next { d with handoff := { h with down := updated h.down last }, port := s.port.posted back })
        ∧ ∀ (ahead behind : List FeatureRecord) (r : FeatureRecord), s.zone.queue = ahead ++ r :: behind →
          serial ≠ 0#16 → r.kind.code = kind → r.serial = serial →
          (∀ q ∈ ahead, ¬ (q.kind.code = kind ∧ q.serial = serial)) →
          let early := r.state == .travelling
          ∃ t, exec c s = .next t
            ∧ t = { d with
                    handoff := { h with down := updated h.down last }
                    zone :=
                      { s.zone with
                        queue := behind
                        earlyTakes := if early then satInc16 s.zone.earlyTakes else s.zone.earlyTakes }
                    port :=
                      s.port.posted
                        (back ++ ahead.map (handed s.travel.z 3#2 false) ++ [handed s.travel.z 3#2 early r])
                    lines := { s.lines with line := t.lines.line }
                    mill := { d.mill with slots := t.mill.slots } }
            ∧ s.threadFollows t)

/-- A valid RAISE, VETO, ASK or DROP from any other position in PLACED, TRACKING and PARKED (R125, R126, R127, R129, R80):
each line of the mask takes the effects of the frame's kind and the others stand; TL0 posts TRIP_ON or TRIP_OFF with the
sender's position when its copy changes; the slots keep or take their filling times (R142); and a neighbour's record is
refreshed behind it (R141). -/
def Obligations.LineFramesReceived : Prop :=
  ∀ (dt : Nat) (arb : Arbitration) (mask : LineMask) (kind : LineKind) (s : State), s.reading = true →
    s.startup.station.operating = true → arb.position ≠ s.startup.position → s.port.actions.length + 2 ≤ 16 →
    let c : Instr := match kind with
      | .raise => .raiseReceived dt arb mask
      | .veto => .vetoReceived dt arb mask
      | .ask => .askReceived dt arb mask
      | .drop => .dropReceived dt arb mask
    let d := s.delivered dt
    let on := mask.getLsbD 0 = true ∧ (kind = .raise ∨ kind = .veto) ∧ s.lines.line.l0.copy = false
    let off := mask.getLsbD 0 = true ∧ kind = .drop ∧ s.lines.line.l0.copy = true
    let trip : List Action :=
      if on then [{ kind := .tripOn, value := BitVec.ofNat 16 arb.position }]
      else if off then [{ kind := .tripOff, value := BitVec.ofNat 16 arb.position }]
      else []
    let acts (v : LineView) : LineView := match kind with
      | .raise => v.held
      | .veto => v.held
      | .ask => v.asked
      | .drop => v.dropped
    ∃ t, exec c s = .next t
      ∧ State.onlyLines
          { d with handoff := s.refreshed arb d.now, port := s.port.posted (trip ++ s.returnActions arb) } t
      ∧ (∀ n : Fin 8, t.view n = if mask.getLsbD n = true then acts (s.view n) else s.view n)
      ∧ s.slotsTimed t

/-! ### Timers -/

/-- The expiries (R26, R78, R79, R18, R80, R151, R124): the stall expiry sets T_p to 65,535 and stops the timer; the PACE
timer's builds a PACE with the condition code of the moment, hands it to the transmit queue, advances the counter and restarts
the timer; a silence timer's makes its record SILENT, posts NEIGHBOUR, into a full action queue too (R160), and, downstream,
starts a stopped claim repeat where the station repeats its CLAIM; a veto window's makes DROPPING and merges a DROP for the
lines whose windows end with it. A stopped timer has no expiry, and neither has a detector without a qualification in
progress; an expiry happens at its limit, and windows that end together expire together (log entries 2 and 19). -/
def Obligations.TimerExpiries : Prop :=
  ∀ s : State,
    let stall := max s.now (s.travel.lastPulse + 65535)
    ((∀ l : EdgeLatch, s.sensing.load ≠ .qualRise l ∧ s.sensing.load ≠ .qualFall l) →
      exec (.qualificationExpiry .load) s = .next s)
    ∧ ((∀ l : EdgeLatch, s.sensing.exit ≠ .qualRise l ∧ s.sensing.exit ≠ .qualFall l) →
      exec (.qualificationExpiry .exit) s = .next s)
    ∧ (s.travel.stallRunning = false → exec .stallExpiry s = .next s)
    ∧ (s.travel.stallRunning = true →
        exec .stallExpiry s
          = .next { s with now := stall, travel := { s.travel with tp := 65535, stallRunning := false } })
    ∧ (s.handoff.paceTimer = none → exec .paceTimerExpiry s = .next s)
    ∧ (∀ e, s.handoff.paceTimer = some e → ∀ code : Nat, s.hasCondition code →
        let now := max s.now e
        let u := State.enqueue { s with now := now }
          (.pace s.startup.position code s.handoff.paceCounter s.handoff.lastTake) none
        exec .paceTimerExpiry s
          = .next
              { s with
                now := now, mill := u.mill
                handoff :=
                  { s.handoff with
                    paceCounter := s.handoff.paceCounter + 1#2
                    paceTimer := some (now + s.startup.config.pacePeriod * 1000) } })
    ∧ (s.handoff.up.silence = none → exec (.silenceTimerExpiry .upstream) s = .next s)
    ∧ (s.handoff.down.silence = none → exec (.silenceTimerExpiry .downstream) s = .next s)
    ∧ (∀ e, s.handoff.up.silence = some e → s.startup.position ≤ 8 →
        exec (.silenceTimerExpiry .upstream) s
          = .next
              { s with
                now := max s.now e
                handoff := { s.handoff with up := { s.handoff.up with liveness := .silent, silence := none } }
                port :=
                  s.port.taking { kind := .neighbour, value := BitVec.ofNat 16 (s.startup.position - 1) } })
    ∧ (∀ e, s.handoff.down.silence = some e → s.startup.position ≤ 8 →
        exec (.silenceTimerExpiry .downstream) s
          = .next
              { s with
                now := max s.now e
                handoff := { s.handoff with down := { s.handoff.down with liveness := .silent, silence := none } }
                startup :=
                  { s.startup with
                    claimRepeat :=
                      if s.startup.straps.last = false ∧ s.startup.position < 8 ∧ s.startup.claimRepeat = none then
                        some (max s.now e + 10000)
                      else s.startup.claimRepeat }
                port :=
                  s.port.taking { kind := .neighbour, value := BitVec.ofNat 16 (s.startup.position + 1) } })
    ∧ ∀ n : Fin 8,
      ((s.lines.line.get n).windowEnd = none → exec (.vetoWindowExpiry n) s = .next s)
      ∧ ∀ e, (s.lines.line.get n).windowEnd = some e →
        ∃ t, exec (.vetoWindowExpiry n) s = .next t ∧ State.onlyLines { s with now := max s.now e } t
          ∧ (∀ k : Fin 8,
              t.view k
                = if (s.view k).line.ask = .window ∧ (s.view k).line.windowEnd = some e then
                    { s.view k with
                      line := { (s.view k).line with ask := .dropping, windowEnd := none }
                      drop := true }
                  else s.view k)
          ∧ s.slotsTimed t

/-! ### What every event keeps -/

/-- No event fills a collection beyond its capacity or puts a forbidden duplicate into it, and while an action waits the
attention latch is set (R3, R54, R57, R104, R142, R160, R162). -/
def Obligations.CollectionsAreKept : Prop :=
  ∀ (c : Instr) (s t : State), s.WithinCapacity → s.Distinct → s.AttentionKept → exec c s = .next t →
    t.WithinCapacity ∧ t.Distinct ∧ t.AttentionKept

/-- Every event keeps the ranges of the configuration, the slip code and the travel counter, the fields that a record of each
kind may hold, and what each station state says of position, CHAIN-OUT, thresholds, sensing and timers (R1, R12 to R16, R29,
R37, R94, R146, R149, R152, R155). -/
def Obligations.RangesAndStatesAreKept : Prop :=
  ∀ (c : Instr) (s t : State), s.InRange → s.ProperRecords → s.Closed → s.Stationed → s.Quiet → exec c s = .next t →
    t.InRange ∧ t.ProperRecords ∧ t.Closed ∧ t.Stationed ∧ t.Quiet

/-- Every event keeps the two promises about the train lines: in PLACED, TRACKING and PARKED the copy of a line with a set
contribution is high unless a RAISE of this station waits or is being sent, and outside STOPPED each contribution is the OR of
its sources (R10, R11, R117, R118, R119). -/
def Obligations.TrainLinesAreKept : Prop :=
  ∀ (c : Instr) (s t : State), s.LinesHeld → s.LinesFollow → s.Quiet → s.Stationed → exec c s = .next t →
    t.LinesHeld ∧ t.LinesFollow

/-- Only the events of R12's table move the station between its states, a hardware reset leads to CLAIMING or UNSET, only it
leaves STOPPED, and without it a station keeps its straps and from CLAIMING on its position, and in TRACKING and PARKED its
configuration record and thresholds. -/
def Obligations.StationMoves : Prop :=
  ∀ (c : Instr) (s t : State), exec c s = .next t →
    (∀ straps chainIn, c = .hardwareReset straps chainIn →
      t.startup.station = if straps.first then .claiming else .unset)
    ∧ ((∀ straps chainIn, c ≠ .hardwareReset straps chainIn) →
      (t.startup.station = s.startup.station ∨ moves c s.startup.station t.startup.station = true)
        ∧ (s.startup.station ≠ .unset → t.startup.position = s.startup.position)
        ∧ t.startup.straps = s.startup.straps
        ∧ (s.startup.station = .tracking ∨ s.startup.station = .parked → t.startup.config = s.startup.config
            ∧ t.zone.thresholds = s.zone.thresholds))

/-- In STOPPED every event but a hardware reset leaves the start-up unit, travel, sensing, the zone, the hand-off unit, the
slip learner, the entry list, the train lines, the transmit queue with its counts, the ready list and the attention enable as
they stood, and the action queue only loses records from its front (R14). -/
def Obligations.StoppedStandsStill : Prop :=
  ∀ (c : Instr) (s t : State), s.startup.station = .stopped → s.Silenced →
    (∀ straps chainIn, c ≠ .hardwareReset straps chainIn) → exec c s = .next t →
    t.startup = s.startup ∧ t.travel = s.travel ∧ t.sensing = s.sensing ∧ t.zone = s.zone ∧ t.handoff = s.handoff
      ∧ t.slip = s.slip ∧ t.entry = s.entry ∧ t.lines = s.lines ∧ t.mill.queue = [] ∧ t.mill.slots = s.mill.slots
      ∧ t.mill.flight = none ∧ t.mill.txErrors = s.mill.txErrors ∧ t.mill.txOverflows = s.mill.txOverflows
      ∧ t.port.ready = s.port.ready ∧ t.port.attnEnable = s.port.attnEnable ∧ t.port.actions <:+ s.port.actions

/-! ### Frames on the wire -/

/-- The line bits of every frame of another station (R133, R134, R137, R138, R139, sections 9.2 and 9.6.1), stuffed, with its
CRC and its end delimiter, are read as exactly the command that stands for the frame, whatever the fields hold. And each
verdict has its bits: an eighth dominant bit of a run within the content limit is a stuffing violation; a dominant bit behind
more than 96 content bits is OVERLONG; content that the closing run leaves one to three bits past a whole byte does not end on
a whole byte; content that up to four bits of the closing run complete is judged as its bytes, too short, of a bad CRC, of an
unknown kind, of a wrong length, or valid; and bits that have not reached a sixth recessive one give no verdict yet. -/
def Obligations.LineFramesRoundTrip : Prop :=
  (∀ (dt : Nat) (arb : Arbitration) (c : Instr) (content : List Byte), receivedFrame c = some (dt, arb) →
    c.content = some content → lineCommand dt (frameBits content) = some c)
  ∧ (∀ bytes : List Byte, bytes.length ≤ 12 →
      judgeLine (stuffed (bytesBits bytes) ++ List.replicate 8 true) = bytesVerdict bytes)
  ∧ ∀ content rest : List Bool,
    (content.length + 7 ≤ 96 → judgeLine (stuffed content ++ List.replicate 8 false ++ rest) = .stuffing)
    ∧ (96 < content.length → judgeLine (stuffed content ++ [false] ++ rest) = .overlong)
    ∧ (content.length ≤ 96 → judgeLine (stuffed content) = .incomplete)
    ∧ (content.length ≤ 96 → content.getLast? ≠ some true →
        (content.length % 8 = 1 ∨ content.length % 8 = 2 ∨ content.length % 8 = 3 →
          judgeLine (stuffed content ++ List.replicate 8 true ++ rest) = .notWholeByte)
        ∧ ∀ (k : Nat) (bytes : List Byte), k ≤ 4 → bytesBits bytes = content ++ List.replicate k true →
          judgeLine (stuffed content ++ List.replicate 8 true ++ rest) = bytesVerdict bytes)
end

