-- ==== Sys2Proof/Laws/State.lean ====
section
/-!
SUPPORT. What each update of the state leaves in each field, true by unfolding. One law per update; simp uses each of its
equations.
-/

namespace Sys2Proof.Machine

/-- The fields after time passing. -/
@[simp] theorem State.elapse_fields (s : State) (dt : Nat) :
    (s.elapse dt).now = s.now + dt
      ∧ (s.elapse dt).pins = s.pins
      ∧ (s.elapse dt).startup = s.startup
      ∧ (s.elapse dt).travel = s.travel
      ∧ (s.elapse dt).sensing = s.sensing
      ∧ (s.elapse dt).zone = s.zone
      ∧ (s.elapse dt).handoff = s.handoff
      ∧ (s.elapse dt).slip = s.slip
      ∧ (s.elapse dt).entry = s.entry
      ∧ (s.elapse dt).lines = s.lines
      ∧ (s.elapse dt).strobe = s.strobe
      ∧ (s.elapse dt).mill = s.mill
      ∧ (s.elapse dt).port = s.port
      ∧ (s.elapse dt).pending = s.pending := by
  and_intros <;> rfl

/-- The fields after a timer reaching its limit. -/
@[simp] theorem State.reach_fields (s : State) (t : Nat) :
    (s.reach t).now = max s.now t
      ∧ (s.reach t).pins = s.pins
      ∧ (s.reach t).startup = s.startup
      ∧ (s.reach t).travel = s.travel
      ∧ (s.reach t).sensing = s.sensing
      ∧ (s.reach t).zone = s.zone
      ∧ (s.reach t).handoff = s.handoff
      ∧ (s.reach t).slip = s.slip
      ∧ (s.reach t).entry = s.entry
      ∧ (s.reach t).lines = s.lines
      ∧ (s.reach t).strobe = s.strobe
      ∧ (s.reach t).mill = s.mill
      ∧ (s.reach t).port = s.port
      ∧ (s.reach t).pending = s.pending := by
  and_intros <;> rfl

/-- The fields after posting an action. -/
@[simp] theorem State.post_fields (s : State) (a : Action) :
    (s.post a).now = s.now
      ∧ (s.post a).pins = s.pins
      ∧ (s.post a).startup = s.startup
      ∧ (s.post a).travel = s.travel
      ∧ (s.post a).sensing = s.sensing
      ∧ (s.post a).zone = s.zone
      ∧ (s.post a).handoff = s.handoff
      ∧ (s.post a).slip = s.slip
      ∧ (s.post a).entry = s.entry
      ∧ (s.post a).lines = s.lines
      ∧ (s.post a).strobe = s.strobe
      ∧ (s.post a).mill = s.mill
      ∧ (s.post a).port.held = s.port.held
      ∧ (s.post a).port.ready = s.port.ready
      ∧ ((s.post a).port.actions = if s.port.actions.length < Config.actionCapacity then s.port.actions ++ [a] else s.port.actions)
      ∧ ((s.post a).port.overflow = if s.port.actions.length < Config.actionCapacity then s.port.overflow else satInc8 s.port.overflow)
      ∧ (s.post a).port.attnLatch = true
      ∧ (s.post a).port.attnEnable = s.port.attnEnable
      ∧ (s.post a).pending = s.pending := by
  and_intros <;> rfl

/-- The fields after answering without data. -/
@[simp] theorem State.answer_fields (s : State) (code : Byte) (a : Answer) :
    (s.answer code a).now = s.now
      ∧ (s.answer code a).pins = s.pins
      ∧ (s.answer code a).startup = s.startup
      ∧ (s.answer code a).travel = s.travel
      ∧ (s.answer code a).sensing = s.sensing
      ∧ (s.answer code a).zone = s.zone
      ∧ (s.answer code a).handoff = s.handoff
      ∧ (s.answer code a).slip = s.slip
      ∧ (s.answer code a).entry = s.entry
      ∧ (s.answer code a).lines = s.lines
      ∧ (s.answer code a).strobe = s.strobe
      ∧ (s.answer code a).mill = s.mill
      ∧ (s.answer code a).port.held = responseBlock code a []
      ∧ (s.answer code a).port.ready = s.port.ready
      ∧ (s.answer code a).port.actions = s.port.actions
      ∧ (s.answer code a).port.overflow = s.port.overflow
      ∧ (s.answer code a).port.attnLatch = s.port.attnLatch
      ∧ (s.answer code a).port.attnEnable = s.port.attnEnable
      ∧ (s.answer code a).pending = s.pending := by
  and_intros <;> rfl

/-- The fields after answering with data. -/
@[simp] theorem State.answerData_fields (s : State) (code : Byte) (a : Answer) (data : List Byte) :
    (s.answerData code a data).now = s.now
      ∧ (s.answerData code a data).pins = s.pins
      ∧ (s.answerData code a data).startup = s.startup
      ∧ (s.answerData code a data).travel = s.travel
      ∧ (s.answerData code a data).sensing = s.sensing
      ∧ (s.answerData code a data).zone = s.zone
      ∧ (s.answerData code a data).handoff = s.handoff
      ∧ (s.answerData code a data).slip = s.slip
      ∧ (s.answerData code a data).entry = s.entry
      ∧ (s.answerData code a data).lines = s.lines
      ∧ (s.answerData code a data).strobe = s.strobe
      ∧ (s.answerData code a data).mill = s.mill
      ∧ (s.answerData code a data).port.held = responseBlock code a data
      ∧ (s.answerData code a data).port.ready = s.port.ready
      ∧ (s.answerData code a data).port.actions = s.port.actions
      ∧ (s.answerData code a data).port.overflow = s.port.overflow
      ∧ (s.answerData code a data).port.attnLatch = s.port.attnLatch
      ∧ (s.answerData code a data).port.attnEnable = s.port.attnEnable
      ∧ (s.answerData code a data).pending = s.pending := by
  and_intros <;> rfl

/-- The fields after another zone queue. -/
@[simp] theorem State.withZone_fields (s : State) (q : List FeatureRecord) :
    (s.withZone q).now = s.now
      ∧ (s.withZone q).pins = s.pins
      ∧ (s.withZone q).startup = s.startup
      ∧ (s.withZone q).travel = s.travel
      ∧ (s.withZone q).sensing = s.sensing
      ∧ (s.withZone q).zone.queue = q
      ∧ (s.withZone q).zone.overdueFlag = s.zone.overdueFlag
      ∧ (s.withZone q).zone.earlyTakes = s.zone.earlyTakes
      ∧ (s.withZone q).zone.thresholds = s.zone.thresholds
      ∧ (s.withZone q).handoff = s.handoff
      ∧ (s.withZone q).slip = s.slip
      ∧ (s.withZone q).entry = s.entry
      ∧ (s.withZone q).lines = s.lines
      ∧ (s.withZone q).strobe = s.strobe
      ∧ (s.withZone q).mill = s.mill
      ∧ (s.withZone q).port = s.port
      ∧ (s.withZone q).pending = s.pending := by
  and_intros <;> rfl

/-- The fields after another expectation list. -/
@[simp] theorem State.withExpectations_fields (s : State) (l : List Expectation) :
    (s.withExpectations l).now = s.now
      ∧ (s.withExpectations l).pins = s.pins
      ∧ (s.withExpectations l).startup = s.startup
      ∧ (s.withExpectations l).travel = s.travel
      ∧ (s.withExpectations l).sensing = s.sensing
      ∧ (s.withExpectations l).zone = s.zone
      ∧ (s.withExpectations l).handoff.expectations = l
      ∧ (s.withExpectations l).handoff.anonCounter = s.handoff.anonCounter
      ∧ (s.withExpectations l).handoff.lastTake = s.handoff.lastTake
      ∧ (s.withExpectations l).handoff.paceTimer = s.handoff.paceTimer
      ∧ (s.withExpectations l).handoff.paceCounter = s.handoff.paceCounter
      ∧ (s.withExpectations l).handoff.up = s.handoff.up
      ∧ (s.withExpectations l).handoff.down = s.handoff.down
      ∧ (s.withExpectations l).handoff.unmatched = s.handoff.unmatched
      ∧ (s.withExpectations l).handoff.discarded = s.handoff.discarded
      ∧ (s.withExpectations l).slip = s.slip
      ∧ (s.withExpectations l).entry = s.entry
      ∧ (s.withExpectations l).lines = s.lines
      ∧ (s.withExpectations l).strobe = s.strobe
      ∧ (s.withExpectations l).mill = s.mill
      ∧ (s.withExpectations l).port = s.port
      ∧ (s.withExpectations l).pending = s.pending := by
  and_intros <;> rfl

/-- The fields after another last take. -/
@[simp] theorem State.withLastTake_fields (s : State) (t : Option TakeRef) :
    (s.withLastTake t).now = s.now
      ∧ (s.withLastTake t).pins = s.pins
      ∧ (s.withLastTake t).startup = s.startup
      ∧ (s.withLastTake t).travel = s.travel
      ∧ (s.withLastTake t).sensing = s.sensing
      ∧ (s.withLastTake t).zone = s.zone
      ∧ (s.withLastTake t).handoff.expectations = s.handoff.expectations
      ∧ (s.withLastTake t).handoff.anonCounter = s.handoff.anonCounter
      ∧ (s.withLastTake t).handoff.lastTake = t
      ∧ (s.withLastTake t).handoff.paceTimer = s.handoff.paceTimer
      ∧ (s.withLastTake t).handoff.paceCounter = s.handoff.paceCounter
      ∧ (s.withLastTake t).handoff.up = s.handoff.up
      ∧ (s.withLastTake t).handoff.down = s.handoff.down
      ∧ (s.withLastTake t).handoff.unmatched = s.handoff.unmatched
      ∧ (s.withLastTake t).handoff.discarded = s.handoff.discarded
      ∧ (s.withLastTake t).slip = s.slip
      ∧ (s.withLastTake t).entry = s.entry
      ∧ (s.withLastTake t).lines = s.lines
      ∧ (s.withLastTake t).strobe = s.strobe
      ∧ (s.withLastTake t).mill = s.mill
      ∧ (s.withLastTake t).port = s.port
      ∧ (s.withLastTake t).pending = s.pending := by
  and_intros <;> rfl

/-- The fields after a discarded hand-off frame. -/
@[simp] theorem State.countDiscarded_fields (s : State) :
    s.countDiscarded.now = s.now
      ∧ s.countDiscarded.pins = s.pins
      ∧ s.countDiscarded.startup = s.startup
      ∧ s.countDiscarded.travel = s.travel
      ∧ s.countDiscarded.sensing = s.sensing
      ∧ s.countDiscarded.zone = s.zone
      ∧ s.countDiscarded.handoff.expectations = s.handoff.expectations
      ∧ s.countDiscarded.handoff.anonCounter = s.handoff.anonCounter
      ∧ s.countDiscarded.handoff.lastTake = s.handoff.lastTake
      ∧ s.countDiscarded.handoff.paceTimer = s.handoff.paceTimer
      ∧ s.countDiscarded.handoff.paceCounter = s.handoff.paceCounter
      ∧ s.countDiscarded.handoff.up = s.handoff.up
      ∧ s.countDiscarded.handoff.down = s.handoff.down
      ∧ s.countDiscarded.handoff.unmatched = s.handoff.unmatched
      ∧ s.countDiscarded.handoff.discarded = satInc16 s.handoff.discarded
      ∧ s.countDiscarded.slip = s.slip
      ∧ s.countDiscarded.entry = s.entry
      ∧ s.countDiscarded.lines = s.lines
      ∧ s.countDiscarded.strobe = s.strobe
      ∧ s.countDiscarded.mill = s.mill
      ∧ s.countDiscarded.port = s.port
      ∧ s.countDiscarded.pending = s.pending := by
  and_intros <;> rfl

/-- The fields after an unmatched take. -/
@[simp] theorem State.countUnmatched_fields (s : State) :
    s.countUnmatched.now = s.now
      ∧ s.countUnmatched.pins = s.pins
      ∧ s.countUnmatched.startup = s.startup
      ∧ s.countUnmatched.travel = s.travel
      ∧ s.countUnmatched.sensing = s.sensing
      ∧ s.countUnmatched.zone = s.zone
      ∧ s.countUnmatched.handoff.expectations = s.handoff.expectations
      ∧ s.countUnmatched.handoff.anonCounter = s.handoff.anonCounter
      ∧ s.countUnmatched.handoff.lastTake = s.handoff.lastTake
      ∧ s.countUnmatched.handoff.paceTimer = s.handoff.paceTimer
      ∧ s.countUnmatched.handoff.paceCounter = s.handoff.paceCounter
      ∧ s.countUnmatched.handoff.up = s.handoff.up
      ∧ s.countUnmatched.handoff.down = s.handoff.down
      ∧ s.countUnmatched.handoff.unmatched = satInc16 s.handoff.unmatched
      ∧ s.countUnmatched.handoff.discarded = s.handoff.discarded
      ∧ s.countUnmatched.slip = s.slip
      ∧ s.countUnmatched.entry = s.entry
      ∧ s.countUnmatched.lines = s.lines
      ∧ s.countUnmatched.strobe = s.strobe
      ∧ s.countUnmatched.mill = s.mill
      ∧ s.countUnmatched.port = s.port
      ∧ s.countUnmatched.pending = s.pending := by
  and_intros <;> rfl

/-- The fields after another entry list. -/
@[simp] theorem State.withBars_fields (s : State) (l : List Bar) :
    (s.withBars l).now = s.now
      ∧ (s.withBars l).pins = s.pins
      ∧ (s.withBars l).startup = s.startup
      ∧ (s.withBars l).travel = s.travel
      ∧ (s.withBars l).sensing = s.sensing
      ∧ (s.withBars l).zone = s.zone
      ∧ (s.withBars l).handoff = s.handoff
      ∧ (s.withBars l).slip = s.slip
      ∧ (s.withBars l).entry.bars = l
      ∧ (s.withBars l).lines = s.lines
      ∧ (s.withBars l).strobe = s.strobe
      ∧ (s.withBars l).mill = s.mill
      ∧ (s.withBars l).port = s.port
      ∧ (s.withBars l).pending = s.pending := by
  and_intros <;> rfl

/-- The fields after another ready list. -/
@[simp] theorem State.withReady_fields (s : State) (l : List SetTag) :
    (s.withReady l).now = s.now
      ∧ (s.withReady l).pins = s.pins
      ∧ (s.withReady l).startup = s.startup
      ∧ (s.withReady l).travel = s.travel
      ∧ (s.withReady l).sensing = s.sensing
      ∧ (s.withReady l).zone = s.zone
      ∧ (s.withReady l).handoff = s.handoff
      ∧ (s.withReady l).slip = s.slip
      ∧ (s.withReady l).entry = s.entry
      ∧ (s.withReady l).lines = s.lines
      ∧ (s.withReady l).strobe = s.strobe
      ∧ (s.withReady l).mill = s.mill
      ∧ (s.withReady l).port.held = s.port.held
      ∧ (s.withReady l).port.ready = l
      ∧ (s.withReady l).port.actions = s.port.actions
      ∧ (s.withReady l).port.overflow = s.port.overflow
      ∧ (s.withReady l).port.attnLatch = s.port.attnLatch
      ∧ (s.withReady l).port.attnEnable = s.port.attnEnable
      ∧ (s.withReady l).pending = s.pending := by
  and_intros <;> rfl

/-- The fields after another LOAD detector. -/
@[simp] theorem State.withLoad_fields (s : State) (d : Detector) :
    (s.withLoad d).now = s.now
      ∧ (s.withLoad d).pins = s.pins
      ∧ (s.withLoad d).startup = s.startup
      ∧ (s.withLoad d).travel = s.travel
      ∧ (s.withLoad d).sensing.load = d
      ∧ (s.withLoad d).sensing.exit = s.sensing.exit
      ∧ (s.withLoad d).sensing.qualifyFail = s.sensing.qualifyFail
      ∧ (s.withLoad d).sensing.inhibit = s.sensing.inhibit
      ∧ (s.withLoad d).zone = s.zone
      ∧ (s.withLoad d).handoff = s.handoff
      ∧ (s.withLoad d).slip = s.slip
      ∧ (s.withLoad d).entry = s.entry
      ∧ (s.withLoad d).lines = s.lines
      ∧ (s.withLoad d).strobe = s.strobe
      ∧ (s.withLoad d).mill = s.mill
      ∧ (s.withLoad d).port = s.port
      ∧ (s.withLoad d).pending = s.pending := by
  and_intros <;> rfl

/-- The fields after another EXIT detector. -/
@[simp] theorem State.withExit_fields (s : State) (d : Detector) :
    (s.withExit d).now = s.now
      ∧ (s.withExit d).pins = s.pins
      ∧ (s.withExit d).startup = s.startup
      ∧ (s.withExit d).travel = s.travel
      ∧ (s.withExit d).sensing.load = s.sensing.load
      ∧ (s.withExit d).sensing.exit = d
      ∧ (s.withExit d).sensing.qualifyFail = s.sensing.qualifyFail
      ∧ (s.withExit d).sensing.inhibit = s.sensing.inhibit
      ∧ (s.withExit d).zone = s.zone
      ∧ (s.withExit d).handoff = s.handoff
      ∧ (s.withExit d).slip = s.slip
      ∧ (s.withExit d).entry = s.entry
      ∧ (s.withExit d).lines = s.lines
      ∧ (s.withExit d).strobe = s.strobe
      ∧ (s.withExit d).mill = s.mill
      ∧ (s.withExit d).port = s.port
      ∧ (s.withExit d).pending = s.pending := by
  and_intros <;> rfl

/-- The fields after a countdown starting. -/
@[simp] theorem State.startInhibit_fields (s : State) (ms : Nat) :
    (s.startInhibit ms).now = s.now
      ∧ (s.startInhibit ms).pins = s.pins
      ∧ (s.startInhibit ms).startup = s.startup
      ∧ (s.startInhibit ms).travel = s.travel
      ∧ (s.startInhibit ms).sensing.load = s.sensing.load.blind
      ∧ (s.startInhibit ms).sensing.exit = s.sensing.exit
      ∧ (s.startInhibit ms).sensing.qualifyFail = s.sensing.qualifyFail
      ∧ (s.startInhibit ms).sensing.inhibit = some (s.now + ms * 1000)
      ∧ (s.startInhibit ms).zone = s.zone
      ∧ (s.startInhibit ms).handoff = s.handoff
      ∧ (s.startInhibit ms).slip = s.slip
      ∧ (s.startInhibit ms).entry = s.entry
      ∧ (s.startInhibit ms).lines = s.lines
      ∧ (s.startInhibit ms).strobe = s.strobe
      ∧ (s.startInhibit ms).mill = s.mill
      ∧ (s.startInhibit ms).port = s.port
      ∧ (s.startInhibit ms).pending = s.pending := by
  and_intros <;> rfl

/-- The fields after a strobe pulse starting. -/
@[simp] theorem State.startStrobe_fields (s : State) :
    s.startStrobe.now = s.now
      ∧ s.startStrobe.pins = s.pins
      ∧ s.startStrobe.startup = s.startup
      ∧ s.startStrobe.travel = s.travel
      ∧ s.startStrobe.sensing = s.sensing
      ∧ s.startStrobe.zone = s.zone
      ∧ s.startStrobe.handoff = s.handoff
      ∧ s.startStrobe.slip = s.slip
      ∧ s.startStrobe.entry = s.entry
      ∧ s.startStrobe.lines = s.lines
      ∧ s.startStrobe.strobe = some (s.now + s.startup.config.strobeWidth)
      ∧ s.startStrobe.mill = s.mill
      ∧ s.startStrobe.port = s.port
      ∧ s.startStrobe.pending = s.pending := by
  and_intros <;> rfl

/-- The fields after another receiver state. -/
@[simp] theorem State.withReceiver_fields (s : State) (rx : Receiver) (idle : Nat) :
    (s.withReceiver rx idle).now = s.now
      ∧ (s.withReceiver rx idle).pins = s.pins
      ∧ (s.withReceiver rx idle).startup = s.startup
      ∧ (s.withReceiver rx idle).travel = s.travel
      ∧ (s.withReceiver rx idle).sensing = s.sensing
      ∧ (s.withReceiver rx idle).zone = s.zone
      ∧ (s.withReceiver rx idle).handoff = s.handoff
      ∧ (s.withReceiver rx idle).slip = s.slip
      ∧ (s.withReceiver rx idle).entry = s.entry
      ∧ (s.withReceiver rx idle).lines = s.lines
      ∧ (s.withReceiver rx idle).strobe = s.strobe
      ∧ (s.withReceiver rx idle).mill.rx = rx
      ∧ (s.withReceiver rx idle).mill.ownTail = s.mill.ownTail
      ∧ (s.withReceiver rx idle).mill.idle = idle
      ∧ (s.withReceiver rx idle).mill.sof = s.mill.sof
      ∧ (s.withReceiver rx idle).mill.queue = s.mill.queue
      ∧ (s.withReceiver rx idle).mill.slots = s.mill.slots
      ∧ (s.withReceiver rx idle).mill.flight = s.mill.flight
      ∧ (s.withReceiver rx idle).mill.rxErrors = s.mill.rxErrors
      ∧ (s.withReceiver rx idle).mill.overlong = s.mill.overlong
      ∧ (s.withReceiver rx idle).mill.unknownKinds = s.mill.unknownKinds
      ∧ (s.withReceiver rx idle).mill.txErrors = s.mill.txErrors
      ∧ (s.withReceiver rx idle).mill.txOverflows = s.mill.txOverflows
      ∧ (s.withReceiver rx idle).port = s.port
      ∧ (s.withReceiver rx idle).pending = s.pending := by
  and_intros <;> rfl

/-- The fields after a start of frame. -/
@[simp] theorem State.detectSof_fields (s : State) :
    s.detectSof.now = s.now
      ∧ s.detectSof.pins = s.pins
      ∧ s.detectSof.startup = s.startup
      ∧ s.detectSof.travel = s.travel
      ∧ s.detectSof.sensing = s.sensing
      ∧ s.detectSof.zone = s.zone
      ∧ s.detectSof.handoff = s.handoff
      ∧ s.detectSof.slip = s.slip
      ∧ s.detectSof.entry = s.entry
      ∧ s.detectSof.lines = s.lines
      ∧ s.detectSof.strobe = s.strobe
      ∧ s.detectSof.mill.rx = .receiving
      ∧ s.detectSof.mill.ownTail = false
      ∧ s.detectSof.mill.idle = 0
      ∧ s.detectSof.mill.sof = s.sofNow
      ∧ s.detectSof.mill.queue = s.mill.queue
      ∧ s.detectSof.mill.slots = s.mill.slots
      ∧ s.detectSof.mill.flight = s.mill.flight
      ∧ s.detectSof.mill.rxErrors = s.mill.rxErrors
      ∧ s.detectSof.mill.overlong = s.mill.overlong
      ∧ s.detectSof.mill.unknownKinds = s.mill.unknownKinds
      ∧ s.detectSof.mill.txErrors = s.mill.txErrors
      ∧ s.detectSof.mill.txOverflows = s.mill.txOverflows
      ∧ s.detectSof.port = s.port
      ∧ s.detectSof.pending = s.pending := by
  and_intros <;> rfl

/-- The fields after a slot changing. -/
@[simp] theorem State.modifySlot_fields (s : State) (k : LineKind) (f : Slot → Slot) :
    (s.modifySlot k f).now = s.now
      ∧ (s.modifySlot k f).pins = s.pins
      ∧ (s.modifySlot k f).startup = s.startup
      ∧ (s.modifySlot k f).travel = s.travel
      ∧ (s.modifySlot k f).sensing = s.sensing
      ∧ (s.modifySlot k f).zone = s.zone
      ∧ (s.modifySlot k f).handoff = s.handoff
      ∧ (s.modifySlot k f).slip = s.slip
      ∧ (s.modifySlot k f).entry = s.entry
      ∧ (s.modifySlot k f).lines = s.lines
      ∧ (s.modifySlot k f).strobe = s.strobe
      ∧ (s.modifySlot k f).mill.rx = s.mill.rx
      ∧ (s.modifySlot k f).mill.ownTail = s.mill.ownTail
      ∧ (s.modifySlot k f).mill.idle = s.mill.idle
      ∧ (s.modifySlot k f).mill.sof = s.mill.sof
      ∧ (s.modifySlot k f).mill.queue = s.mill.queue
      ∧ (s.modifySlot k f).mill.slots = s.mill.slots.modify k f
      ∧ (s.modifySlot k f).mill.flight = s.mill.flight
      ∧ (s.modifySlot k f).mill.rxErrors = s.mill.rxErrors
      ∧ (s.modifySlot k f).mill.overlong = s.mill.overlong
      ∧ (s.modifySlot k f).mill.unknownKinds = s.mill.unknownKinds
      ∧ (s.modifySlot k f).mill.txErrors = s.mill.txErrors
      ∧ (s.modifySlot k f).mill.txOverflows = s.mill.txOverflows
      ∧ (s.modifySlot k f).port = s.port
      ∧ (s.modifySlot k f).pending = s.pending := by
  and_intros <;> rfl

/-- The fields after merging a train-line frame. -/
@[simp] theorem State.merge_fields (s : State) (k : LineKind) (m : LineMask) :
    (s.merge k m).now = s.now
      ∧ (s.merge k m).pins = s.pins
      ∧ (s.merge k m).startup = s.startup
      ∧ (s.merge k m).travel = s.travel
      ∧ (s.merge k m).sensing = s.sensing
      ∧ (s.merge k m).zone = s.zone
      ∧ (s.merge k m).handoff = s.handoff
      ∧ (s.merge k m).slip = s.slip
      ∧ (s.merge k m).entry = s.entry
      ∧ (s.merge k m).lines = s.lines
      ∧ (s.merge k m).strobe = s.strobe
      ∧ (s.merge k m).mill.rx = s.mill.rx
      ∧ (s.merge k m).mill.ownTail = s.mill.ownTail
      ∧ (s.merge k m).mill.idle = s.mill.idle
      ∧ (s.merge k m).mill.sof = s.mill.sof
      ∧ (s.merge k m).mill.queue = s.mill.queue
      ∧ (s.merge k m).mill.slots = s.mill.slots.modify k (Slot.merge s.now m)
      ∧ (s.merge k m).mill.flight = s.mill.flight
      ∧ (s.merge k m).mill.rxErrors = s.mill.rxErrors
      ∧ (s.merge k m).mill.overlong = s.mill.overlong
      ∧ (s.merge k m).mill.unknownKinds = s.mill.unknownKinds
      ∧ (s.merge k m).mill.txErrors = s.mill.txErrors
      ∧ (s.merge k m).mill.txOverflows = s.mill.txOverflows
      ∧ (s.merge k m).port = s.port
      ∧ (s.merge k m).pending = s.pending := by
  and_intros <;> rfl

/-- The fields after removing lines from a slot. -/
@[simp] theorem State.unmerge_fields (s : State) (k : LineKind) (m : LineMask) :
    (s.unmerge k m).now = s.now
      ∧ (s.unmerge k m).pins = s.pins
      ∧ (s.unmerge k m).startup = s.startup
      ∧ (s.unmerge k m).travel = s.travel
      ∧ (s.unmerge k m).sensing = s.sensing
      ∧ (s.unmerge k m).zone = s.zone
      ∧ (s.unmerge k m).handoff = s.handoff
      ∧ (s.unmerge k m).slip = s.slip
      ∧ (s.unmerge k m).entry = s.entry
      ∧ (s.unmerge k m).lines = s.lines
      ∧ (s.unmerge k m).strobe = s.strobe
      ∧ (s.unmerge k m).mill.rx = s.mill.rx
      ∧ (s.unmerge k m).mill.ownTail = s.mill.ownTail
      ∧ (s.unmerge k m).mill.idle = s.mill.idle
      ∧ (s.unmerge k m).mill.sof = s.mill.sof
      ∧ (s.unmerge k m).mill.queue = s.mill.queue
      ∧ (s.unmerge k m).mill.slots = s.mill.slots.modify k (Slot.remove m)
      ∧ (s.unmerge k m).mill.flight = s.mill.flight
      ∧ (s.unmerge k m).mill.rxErrors = s.mill.rxErrors
      ∧ (s.unmerge k m).mill.overlong = s.mill.overlong
      ∧ (s.unmerge k m).mill.unknownKinds = s.mill.unknownKinds
      ∧ (s.unmerge k m).mill.txErrors = s.mill.txErrors
      ∧ (s.unmerge k m).mill.txOverflows = s.mill.txOverflows
      ∧ (s.unmerge k m).port = s.port
      ∧ (s.unmerge k m).pending = s.pending := by
  and_intros <;> rfl

/-- The fields after train lines changing. -/
@[simp] theorem State.mapLines_fields (s : State) (m : LineMask) (f : TrainLine → TrainLine) :
    (s.mapLines m f).now = s.now
      ∧ (s.mapLines m f).pins = s.pins
      ∧ (s.mapLines m f).startup = s.startup
      ∧ (s.mapLines m f).travel = s.travel
      ∧ (s.mapLines m f).sensing = s.sensing
      ∧ (s.mapLines m f).zone = s.zone
      ∧ (s.mapLines m f).handoff = s.handoff
      ∧ (s.mapLines m f).slip = s.slip
      ∧ (s.mapLines m f).entry = s.entry
      ∧ (s.mapLines m f).lines.line = s.lines.line.mapMask m f
      ∧ (s.mapLines m f).lines.hostTrip = s.lines.hostTrip
      ∧ (s.mapLines m f).lines.signals = s.lines.signals
      ∧ (s.mapLines m f).strobe = s.strobe
      ∧ (s.mapLines m f).mill = s.mill
      ∧ (s.mapLines m f).port = s.port
      ∧ (s.mapLines m f).pending = s.pending := by
  and_intros <;> rfl

/-- The fields after a frame leaving its place. -/
@[simp] theorem State.dropFlying_fields (s : State) :
    s.dropFlying.now = s.now
      ∧ s.dropFlying.pins = s.pins
      ∧ s.dropFlying.startup = s.startup
      ∧ s.dropFlying.travel = s.travel
      ∧ s.dropFlying.sensing = s.sensing
      ∧ s.dropFlying.zone = s.zone
      ∧ s.dropFlying.handoff = s.handoff
      ∧ s.dropFlying.slip = s.slip
      ∧ s.dropFlying.entry = s.entry
      ∧ s.dropFlying.lines = s.lines
      ∧ s.dropFlying.strobe = s.strobe
      ∧ s.dropFlying.mill.rx = s.mill.rx
      ∧ s.dropFlying.mill.ownTail = s.mill.ownTail
      ∧ s.dropFlying.mill.idle = s.mill.idle
      ∧ s.dropFlying.mill.sof = s.mill.sof
      ∧ s.dropFlying.mill.queue = s.mill.queue.filter (fun f => !f.flying)
      ∧ s.dropFlying.mill.slots = s.mill.slots
      ∧ s.dropFlying.mill.flight = none
      ∧ s.dropFlying.mill.rxErrors = s.mill.rxErrors
      ∧ s.dropFlying.mill.overlong = s.mill.overlong
      ∧ s.dropFlying.mill.unknownKinds = s.mill.unknownKinds
      ∧ s.dropFlying.mill.txErrors = s.mill.txErrors
      ∧ s.dropFlying.mill.txOverflows = s.mill.txOverflows
      ∧ s.dropFlying.port = s.port
      ∧ s.dropFlying.pending = s.pending := by
  and_intros <;> rfl

/-- The fields after a frame staying in its place. -/
@[simp] theorem State.keepFlying_fields (s : State) :
    s.keepFlying.now = s.now
      ∧ s.keepFlying.pins = s.pins
      ∧ s.keepFlying.startup = s.startup
      ∧ s.keepFlying.travel = s.travel
      ∧ s.keepFlying.sensing = s.sensing
      ∧ s.keepFlying.zone = s.zone
      ∧ s.keepFlying.handoff = s.handoff
      ∧ s.keepFlying.slip = s.slip
      ∧ s.keepFlying.entry = s.entry
      ∧ s.keepFlying.lines = s.lines
      ∧ s.keepFlying.strobe = s.strobe
      ∧ s.keepFlying.mill.rx = s.mill.rx
      ∧ s.keepFlying.mill.ownTail = s.mill.ownTail
      ∧ s.keepFlying.mill.idle = s.mill.idle
      ∧ s.keepFlying.mill.sof = s.mill.sof
      ∧ s.keepFlying.mill.queue = s.mill.queue.map (fun f => { f with flying := false })
      ∧ s.keepFlying.mill.slots = s.mill.slots
      ∧ s.keepFlying.mill.flight = none
      ∧ s.keepFlying.mill.rxErrors = s.mill.rxErrors
      ∧ s.keepFlying.mill.overlong = s.mill.overlong
      ∧ s.keepFlying.mill.unknownKinds = s.mill.unknownKinds
      ∧ s.keepFlying.mill.txErrors = s.mill.txErrors
      ∧ s.keepFlying.mill.txOverflows = s.mill.txOverflows
      ∧ s.keepFlying.port = s.port
      ∧ s.keepFlying.pending = s.pending := by
  and_intros <;> rfl

/-- The fields after a train-line attempt ending. -/
@[simp] theorem State.endFlight_fields (s : State) :
    s.endFlight.now = s.now
      ∧ s.endFlight.pins = s.pins
      ∧ s.endFlight.startup = s.startup
      ∧ s.endFlight.travel = s.travel
      ∧ s.endFlight.sensing = s.sensing
      ∧ s.endFlight.zone = s.zone
      ∧ s.endFlight.handoff = s.handoff
      ∧ s.endFlight.slip = s.slip
      ∧ s.endFlight.entry = s.entry
      ∧ s.endFlight.lines = s.lines
      ∧ s.endFlight.strobe = s.strobe
      ∧ s.endFlight.mill.rx = s.mill.rx
      ∧ s.endFlight.mill.ownTail = s.mill.ownTail
      ∧ s.endFlight.mill.idle = s.mill.idle
      ∧ s.endFlight.mill.sof = s.mill.sof
      ∧ s.endFlight.mill.queue = s.mill.queue
      ∧ s.endFlight.mill.slots = s.mill.slots
      ∧ s.endFlight.mill.flight = none
      ∧ s.endFlight.mill.rxErrors = s.mill.rxErrors
      ∧ s.endFlight.mill.overlong = s.mill.overlong
      ∧ s.endFlight.mill.unknownKinds = s.mill.unknownKinds
      ∧ s.endFlight.mill.txErrors = s.mill.txErrors
      ∧ s.endFlight.mill.txOverflows = s.mill.txOverflows
      ∧ s.endFlight.port = s.port
      ∧ s.endFlight.pending = s.pending := by
  and_intros <;> rfl

/-- The fields after another station state. -/
@[simp] theorem State.withStation_fields (s : State) (st : StationState) :
    (s.withStation st).now = s.now
      ∧ (s.withStation st).pins = s.pins
      ∧ (s.withStation st).startup.station = st
      ∧ (s.withStation st).startup.position = s.startup.position
      ∧ (s.withStation st).startup.straps = s.startup.straps
      ∧ (s.withStation st).startup.lastClaim = s.startup.lastClaim
      ∧ (s.withStation st).startup.chainOut = s.startup.chainOut
      ∧ (s.withStation st).startup.claimRepeat = s.startup.claimRepeat
      ∧ (s.withStation st).startup.config = s.startup.config
      ∧ (s.withStation st).travel = s.travel
      ∧ (s.withStation st).sensing = s.sensing
      ∧ (s.withStation st).zone = s.zone
      ∧ (s.withStation st).handoff = s.handoff
      ∧ (s.withStation st).slip = s.slip
      ∧ (s.withStation st).entry = s.entry
      ∧ (s.withStation st).lines = s.lines
      ∧ (s.withStation st).strobe = s.strobe
      ∧ (s.withStation st).mill = s.mill
      ∧ (s.withStation st).port = s.port
      ∧ (s.withStation st).pending = s.pending := by
  and_intros <;> rfl

/-- The fields after another configuration record. -/
@[simp] theorem State.withConfig_fields (s : State) (c : Configuration) :
    (s.withConfig c).now = s.now
      ∧ (s.withConfig c).pins = s.pins
      ∧ (s.withConfig c).startup.station = s.startup.station
      ∧ (s.withConfig c).startup.position = s.startup.position
      ∧ (s.withConfig c).startup.straps = s.startup.straps
      ∧ (s.withConfig c).startup.lastClaim = s.startup.lastClaim
      ∧ (s.withConfig c).startup.chainOut = s.startup.chainOut
      ∧ (s.withConfig c).startup.claimRepeat = s.startup.claimRepeat
      ∧ (s.withConfig c).startup.config = c
      ∧ (s.withConfig c).travel = s.travel
      ∧ (s.withConfig c).sensing = s.sensing
      ∧ (s.withConfig c).zone = s.zone
      ∧ (s.withConfig c).handoff = s.handoff
      ∧ (s.withConfig c).slip = s.slip
      ∧ (s.withConfig c).entry = s.entry
      ∧ (s.withConfig c).lines = s.lines
      ∧ (s.withConfig c).strobe = s.strobe
      ∧ (s.withConfig c).mill = s.mill
      ∧ (s.withConfig c).port = s.port
      ∧ (s.withConfig c).pending = s.pending := by
  and_intros <;> rfl

/-- The fields after a CLAIM heard. -/
@[simp] theorem State.hearClaim_fields (s : State) (p : Nat) (flags : Byte) :
    (s.hearClaim p flags).now = s.now
      ∧ (s.hearClaim p flags).pins = s.pins
      ∧ (s.hearClaim p flags).startup.station = s.startup.station
      ∧ (s.hearClaim p flags).startup.position = s.startup.position
      ∧ (s.hearClaim p flags).startup.straps = s.startup.straps
      ∧ ((s.hearClaim p flags).startup.lastClaim = some { position := p, first := flags.getLsbD 0, last := flags.getLsbD 1 })
      ∧ (s.hearClaim p flags).startup.chainOut = s.startup.chainOut
      ∧ (s.hearClaim p flags).startup.claimRepeat = s.startup.claimRepeat
      ∧ (s.hearClaim p flags).startup.config = s.startup.config
      ∧ (s.hearClaim p flags).travel = s.travel
      ∧ (s.hearClaim p flags).sensing = s.sensing
      ∧ (s.hearClaim p flags).zone = s.zone
      ∧ (s.hearClaim p flags).handoff = s.handoff
      ∧ (s.hearClaim p flags).slip = s.slip
      ∧ (s.hearClaim p flags).entry = s.entry
      ∧ (s.hearClaim p flags).lines = s.lines
      ∧ (s.hearClaim p flags).strobe = s.strobe
      ∧ (s.hearClaim p flags).mill = s.mill
      ∧ (s.hearClaim p flags).port = s.port
      ∧ (s.hearClaim p flags).pending = s.pending := by
  and_intros <;> rfl

/-- The fields after the attention enable written. -/
@[simp] theorem State.setAttention_fields (s : State) (e : Bool) :
    (s.setAttention e).now = s.now
      ∧ (s.setAttention e).pins = s.pins
      ∧ (s.setAttention e).startup = s.startup
      ∧ (s.setAttention e).travel = s.travel
      ∧ (s.setAttention e).sensing = s.sensing
      ∧ (s.setAttention e).zone = s.zone
      ∧ (s.setAttention e).handoff = s.handoff
      ∧ (s.setAttention e).slip = s.slip
      ∧ (s.setAttention e).entry = s.entry
      ∧ (s.setAttention e).lines = s.lines
      ∧ (s.setAttention e).strobe = s.strobe
      ∧ (s.setAttention e).mill = s.mill
      ∧ (s.setAttention e).port.held = s.port.held
      ∧ (s.setAttention e).port.ready = s.port.ready
      ∧ (s.setAttention e).port.actions = s.port.actions
      ∧ (s.setAttention e).port.overflow = s.port.overflow
      ∧ (s.setAttention e).port.attnLatch = s.port.attnLatch
      ∧ (s.setAttention e).port.attnEnable = e
      ∧ (s.setAttention e).pending = s.pending := by
  and_intros <;> rfl

/-- The fields after a slip sample. -/
@[simp] theorem State.makeSample_fields (s : State) (src : SampleSource) (r : FeatureRecord) (w : TravelWord) :
    (s.makeSample src r w).now = s.now
      ∧ (s.makeSample src r w).pins = s.pins
      ∧ (s.makeSample src r w).startup = s.startup
      ∧ (s.makeSample src r w).travel = s.travel
      ∧ (s.makeSample src r w).sensing = s.sensing
      ∧ (s.makeSample src r w).zone = s.zone
      ∧ (s.makeSample src r w).handoff = s.handoff
      ∧ ((s.makeSample src r w).slip = s.slip.sample s.startup.config.zoneLength s.startup.config.gain src r.serial (w - r.entryW).toNat)
      ∧ (s.makeSample src r w).entry = s.entry
      ∧ (s.makeSample src r w).lines = s.lines
      ∧ (s.makeSample src r w).strobe = s.strobe
      ∧ (s.makeSample src r w).mill = s.mill
      ∧ (s.makeSample src r w).port = s.port
      ∧ (s.makeSample src r w).pending = s.pending := by
  and_intros <;> rfl

/-- The fields after the own attempt ended at its last CRC bit. -/
@[simp] theorem State.readOn_fields (s : State) (f : Flight) :
    (s.readOn f).now = s.now
      ∧ (s.readOn f).pins = s.pins
      ∧ (s.readOn f).startup = s.startup
      ∧ (s.readOn f).travel = s.travel
      ∧ (s.readOn f).sensing = s.sensing
      ∧ (s.readOn f).zone = s.zone
      ∧ (s.readOn f).handoff = s.handoff
      ∧ (s.readOn f).slip = s.slip
      ∧ (s.readOn f).entry = s.entry
      ∧ (s.readOn f).lines = s.lines
      ∧ (s.readOn f).strobe = s.strobe
      ∧ (s.readOn f).mill.rx = .receiving
      ∧ (s.readOn f).mill.ownTail = true
      ∧ (s.readOn f).mill.idle = min Config.idleBits (trailingRecessive f.wire)
      ∧ (s.readOn f).mill.sof = s.mill.sof
      ∧ (s.readOn f).mill.queue = s.mill.queue
      ∧ (s.readOn f).mill.slots = s.mill.slots
      ∧ (s.readOn f).mill.flight = s.mill.flight
      ∧ (s.readOn f).mill.rxErrors = s.mill.rxErrors
      ∧ (s.readOn f).mill.overlong = s.mill.overlong
      ∧ (s.readOn f).mill.unknownKinds = s.mill.unknownKinds
      ∧ (s.readOn f).mill.txErrors = s.mill.txErrors
      ∧ (s.readOn f).mill.txOverflows = s.mill.txOverflows
      ∧ (s.readOn f).port = s.port
      ∧ (s.readOn f).pending = s.pending := by
  and_intros <;> rfl

end Sys2Proof.Machine
end

