-- ==== Sys2Proof/Laws/Lists.lean ====
section
/-!
SUPPORT. The laws of the list operations of Ops.lean, of the records of eight, and of the codes of section 9.6.
-/

namespace Sys2Proof

namespace Machine

/-! ### Searching a list -/

/-- The element found has the property, stands where it stood, and nothing ahead of it has the property. -/
theorem splitFirst_some {α : Type} {p : α → Bool} {l ahead behind : List α} {x : α}
    (h : splitFirst p l = some (ahead, x, behind)) :
    l = ahead ++ x :: behind ∧ p x = true ∧ ∀ y ∈ ahead, p y = false := by
  induction l generalizing ahead with
  | nil => simp [splitFirst] at h
  | cons a l ih =>
    unfold splitFirst at h
    split at h
    · simp only [Option.some.injEq, Prod.mk.injEq] at h
      obtain ⟨rfl, rfl, rfl⟩ := h
      simp_all
    · split at h
      · simp at h
      · rename_i heq
        simp only [Option.some.injEq, Prod.mk.injEq] at h
        obtain ⟨rfl, rfl, rfl⟩ := h
        obtain ⟨h1, h2, h3⟩ := ih heq
        refine ⟨by simp [h1], h2, ?_⟩
        intro y hy
        rcases List.mem_cons.mp hy with rfl | hy
        · simp_all
        · exact h3 y hy

/-- Nothing is found exactly when no element has the property. -/
theorem splitFirst_none {α : Type} {p : α → Bool} {l : List α} :
    splitFirst p l = none ↔ ∀ y ∈ l, p y = false := by
  induction l with
  | nil => simp [splitFirst]
  | cons a l ih =>
    unfold splitFirst
    split
    · simp_all
    · split
      · simp_all
      · rename_i heq
        have := splitFirst_some heq
        obtain ⟨h1, h2, _⟩ := this
        constructor
        · intro h
          simp at h
        · intro h
          have := h _ (List.mem_cons_of_mem a (h1 ▸ List.mem_append_right _ List.mem_cons_self))
          simp [h2] at this

/-- The first element with the property is found where it stands. -/
theorem splitFirst_append {α : Type} {p : α → Bool} {ahead behind : List α} {x : α}
    (hx : p x = true) (ha : ∀ y ∈ ahead, p y = false) :
    splitFirst p (ahead ++ x :: behind) = some (ahead, x, behind) := by
  induction ahead with
  | nil => simp [splitFirst, hx]
  | cons a ahead ih =>
    have := ih (fun y hy => ha y (List.mem_cons_of_mem _ hy))
    simp [splitFirst, ha a List.mem_cons_self, this]

/-- Taking out the last element with a property leaves a sublist. -/
theorem dropLastWhere_sublist {α : Type} (p : α → Bool) (l : List α) : (dropLastWhere p l).Sublist l := by
  induction l with
  | nil => simp [dropLastWhere]
  | cons a l ih =>
    unfold dropLastWhere
    split
    · exact ih.cons_cons a
    · split
      · exact List.sublist_cons_self a l
      · exact List.Sublist.refl _

/-- Taking out the last element with a property takes out one element when there is one. -/
theorem dropLastWhere_length {α : Type} {p : α → Bool} {l : List α} (h : l.any p = true) :
    (dropLastWhere p l).length + 1 = l.length := by
  induction l with
  | nil => simp at h
  | cons a l ih =>
    unfold dropLastWhere
    split
    · rename_i hl
      have := ih hl
      simp only [List.length_cons]
      omega
    · split
      · simp
      · simp_all

/-- Changing the first element with a property keeps the length. -/
@[simp] theorem modifyFirst_length {α : Type} (p : α → Bool) (f : α → α) (l : List α) :
    (modifyFirst p f l).length = l.length := by
  induction l with
  | nil => simp [modifyFirst]
  | cons a l ih =>
    unfold modifyFirst
    split <;> simp [ih]

/-! ### Codes -/

/-- A field of n bytes is n bytes long (section 9.6.2). -/
@[simp] theorem bigEndian_length (n v : Nat) : (bigEndian n v).length = n := by
  induction n generalizing v with
  | zero => rfl
  | succ n ih => simp [bigEndian, ih]

/-- An action record is 8 bytes long (section 9.6.3). -/
@[simp] theorem Action.bytes_length (a : Action) : a.bytes.length = 8 := by
  simp [Action.bytes]

/-- A zone record of READ ZONE is 12 bytes long (section 9.6.4). -/
@[simp] theorem FeatureRecord.bytes_length (z : TravelWord) (r : FeatureRecord) : (r.bytes z).length = 12 := by
  simp [FeatureRecord.bytes]

/-- An expectation of READ ZONE is 4 bytes long (section 9.6.4). -/
@[simp] theorem Expectation.bytes_length (e : Expectation) : e.bytes.length = 4 := by
  simp [Expectation.bytes]

/-- A bar of READ ZONE is 4 bytes long (section 9.6.4). -/
@[simp] theorem Bar.bytes_length (b : Bar) : b.bytes.length = 4 := by
  simp [Bar.bytes]

/-- A sealed block is two bytes longer than its body (section 9.6.2). -/
@[simp] theorem sealBlock_length (body : List Byte) : (sealBlock body).length = body.length + 2 := by
  simp [sealBlock]

/-- The tag field of a tag names that tag (section 9.6.1). -/
@[simp] theorem tagOfByte_tagCode (t : Option SetTag) : tagOfByte (tagCode t) = t := by
  cases t with
  | none => rfl
  | some t =>
    have ht := t.isLt
    have hm : t.val % 256 = t.val := Nat.mod_eq_of_lt (by omega)
    simp [tagOfByte, tagCode, hm]

/-- The kind field of a kind names that kind (section 9.6.1). -/
@[simp] theorem FeatureKind.ofCode_code (k : FeatureKind) : Sys2Proof.FeatureKind.ofCode k.code = some k := by
  cases k <;> rfl

/-- A 16-bit count never falls when it rises, and saturates (R9). -/
theorem satInc16_toNat (c : Count16) : (satInc16 c).toNat = min 65535 (c.toNat + 1) := by
  unfold satInc16
  split
  · simp_all
  · have := c.isLt
    have hne : c.toNat ≠ 65535 := fun h => by
      rename_i hc
      exact hc (BitVec.eq_of_toNat_eq (by simpa using h))
    rw [BitVec.toNat_add]
    simp
    omega

end Machine

/-! ### Records of eight -/

/-- The thing of a line after the lines of a mask changed. -/
@[simp] theorem Eight.get_mapMask {α : Type} (m : LineMask) (f : α → α) (x : Eight α) (n : Fin 8) :
    (x.mapMask m f).get n = if m.getLsbD n.val then f (x.get n) else x.get n := by
  match n with
  | 0 => rfl
  | 1 => rfl
  | 2 => rfl
  | 3 => rfl
  | 4 => rfl
  | 5 => rfl
  | 6 => rfl
  | 7 => rfl

/-- Two records of eight are equal when their things are. -/
theorem Eight.ext_get {α : Type} {x y : Eight α} (h : ∀ n, x.get n = y.get n) : x = y := by
  have h0 := h 0
  have h1 := h 1
  have h2 := h 2
  have h3 := h 3
  have h4 := h 4
  have h5 := h 5
  have h6 := h 6
  have h7 := h 7
  cases x
  cases y
  simp only [Eight.get] at *
  subst_vars
  rfl

/-- The bits of a byte put together from eight flags. -/
theorem flagBits_getLsbD : ∀ a b c d e f g h : Bool,
    let m := Machine.flagBit a 0 ||| Machine.flagBit b 1 ||| Machine.flagBit c 2 ||| Machine.flagBit d 3
      ||| Machine.flagBit e 4 ||| Machine.flagBit f 5 ||| Machine.flagBit g 6 ||| Machine.flagBit h 7
    m.getLsbD 0 = a ∧ m.getLsbD 1 = b ∧ m.getLsbD 2 = c ∧ m.getLsbD 3 = d ∧ m.getLsbD 4 = e ∧ m.getLsbD 5 = f
      ∧ m.getLsbD 6 = g ∧ m.getLsbD 7 = h := by
  decide

/-- Bit n of the mask of a property is the property of line n. -/
@[simp] theorem Eight.mask_getLsbD {α : Type} (p : α → Bool) (x : Eight α) (n : Fin 8) :
    (x.mask p).getLsbD n.val = p (x.get n) := by
  obtain ⟨h0, h1, h2, h3, h4, h5, h6, h7⟩ :=
    flagBits_getLsbD (p x.l0) (p x.l1) (p x.l2) (p x.l3) (p x.l4) (p x.l5) (p x.l6) (p x.l7)
  match n with
  | 0 => exact h0
  | 1 => exact h1
  | 2 => exact h2
  | 3 => exact h3
  | 4 => exact h4
  | 5 => exact h5
  | 6 => exact h6
  | 7 => exact h7

/-- Two line masks are equal when their eight bits are. -/
theorem LineMask.ext_fin {a b : LineMask} (h : ∀ n : Fin 8, a.getLsbD n.val = b.getLsbD n.val) : a = b :=
  BitVec.eq_of_getLsbD_eq fun i hi => h ⟨i, hi⟩

end Sys2Proof
end

