-- ==== Sys2Proof/Laws/Ops.lean ====
section
/-!
SUPPORT. What each shared operation leaves unchanged, and what the operations on collections and train lines do. One frame
law per operation; simp uses each of its equations.
-/

namespace Sys2Proof.Machine

/-! ### Frames -/

/-- What posting several actions leaves unchanged. -/
@[simp] theorem State.postAll_frame (s : State) (as : List Action) :
    (s.postAll as).now = s.now
      ∧ (s.postAll as).pins = s.pins
      ∧ (s.postAll as).startup = s.startup
      ∧ (s.postAll as).travel = s.travel
      ∧ (s.postAll as).sensing = s.sensing
      ∧ (s.postAll as).zone = s.zone
      ∧ (s.postAll as).handoff = s.handoff
      ∧ (s.postAll as).slip = s.slip
      ∧ (s.postAll as).entry = s.entry
      ∧ (s.postAll as).lines = s.lines
      ∧ (s.postAll as).strobe = s.strobe
      ∧ (s.postAll as).mill = s.mill
      ∧ (s.postAll as).port.held = s.port.held
      ∧ (s.postAll as).port.ready = s.port.ready
      ∧ (s.postAll as).port.attnEnable = s.port.attnEnable
      ∧ (s.postAll as).pending = s.pending := by
  induction as generalizing s with
  | nil => simp [State.postAll]
  | cons a as ih =>
    have := ih (s.post a)
    simp only [State.postAll, List.foldl_cons] at this ⊢
    simpa using this

/-- What the ready list losing a tag leaves unchanged. -/
@[simp] theorem State.consumeReady_frame (s : State) (tag : Option SetTag) :
    (s.consumeReady tag).now = s.now
      ∧ (s.consumeReady tag).pins = s.pins
      ∧ (s.consumeReady tag).startup = s.startup
      ∧ (s.consumeReady tag).travel = s.travel
      ∧ (s.consumeReady tag).sensing = s.sensing
      ∧ (s.consumeReady tag).zone = s.zone
      ∧ (s.consumeReady tag).handoff = s.handoff
      ∧ (s.consumeReady tag).slip = s.slip
      ∧ (s.consumeReady tag).entry = s.entry
      ∧ (s.consumeReady tag).lines = s.lines
      ∧ (s.consumeReady tag).strobe = s.strobe
      ∧ (s.consumeReady tag).mill = s.mill
      ∧ (s.consumeReady tag).port.held = s.port.held
      ∧ (s.consumeReady tag).port.actions = s.port.actions
      ∧ (s.consumeReady tag).port.overflow = s.port.overflow
      ∧ (s.consumeReady tag).port.attnLatch = s.port.attnLatch
      ∧ (s.consumeReady tag).port.attnEnable = s.port.attnEnable
      ∧ (s.consumeReady tag).pending = s.pending := by
  unfold State.consumeReady
  split <;> simp

/-- What posting a BITE or a SWITCH leaves unchanged. -/
@[simp] theorem State.postReady_frame (s : State) (tag : Option SetTag) (a : Action) :
    (s.postReady tag a).now = s.now
      ∧ (s.postReady tag a).pins = s.pins
      ∧ (s.postReady tag a).startup = s.startup
      ∧ (s.postReady tag a).travel = s.travel
      ∧ (s.postReady tag a).sensing = s.sensing
      ∧ (s.postReady tag a).zone = s.zone
      ∧ (s.postReady tag a).handoff = s.handoff
      ∧ (s.postReady tag a).slip = s.slip
      ∧ (s.postReady tag a).entry = s.entry
      ∧ (s.postReady tag a).lines = s.lines
      ∧ (s.postReady tag a).strobe = s.strobe
      ∧ (s.postReady tag a).mill = s.mill
      ∧ (s.postReady tag a).port.held = s.port.held
      ∧ (s.postReady tag a).port.attnEnable = s.port.attnEnable
      ∧ (s.postReady tag a).pending = s.pending := by
  simp [State.postReady]

/-- What handing a frame to the transmit queue leaves unchanged. -/
@[simp] theorem State.enqueue_frame (s : State) (body : FrameBody) (age : Option AgeCount) :
    (s.enqueue body age).now = s.now
      ∧ (s.enqueue body age).pins = s.pins
      ∧ (s.enqueue body age).startup = s.startup
      ∧ (s.enqueue body age).travel = s.travel
      ∧ (s.enqueue body age).sensing = s.sensing
      ∧ (s.enqueue body age).zone = s.zone
      ∧ (s.enqueue body age).handoff = s.handoff
      ∧ (s.enqueue body age).slip = s.slip
      ∧ (s.enqueue body age).entry = s.entry
      ∧ (s.enqueue body age).lines = s.lines
      ∧ (s.enqueue body age).strobe = s.strobe
      ∧ (s.enqueue body age).mill.rx = s.mill.rx
      ∧ (s.enqueue body age).mill.ownTail = s.mill.ownTail
      ∧ (s.enqueue body age).mill.idle = s.mill.idle
      ∧ (s.enqueue body age).mill.sof = s.mill.sof
      ∧ (s.enqueue body age).mill.slots = s.mill.slots
      ∧ (s.enqueue body age).mill.flight = s.mill.flight
      ∧ (s.enqueue body age).mill.rxErrors = s.mill.rxErrors
      ∧ (s.enqueue body age).mill.overlong = s.mill.overlong
      ∧ (s.enqueue body age).mill.unknownKinds = s.mill.unknownKinds
      ∧ (s.enqueue body age).mill.txErrors = s.mill.txErrors
      ∧ (s.enqueue body age).port.held = s.port.held
      ∧ (s.enqueue body age).port.ready = s.port.ready
      ∧ (s.enqueue body age).port.attnEnable = s.port.attnEnable
      ∧ (s.enqueue body age).pending = s.pending := by
  unfold State.enqueue
  dsimp only
  split_ifs <;> simp

/-- What copies going high leaves unchanged. -/
@[simp] theorem State.copiesHigh_frame (s : State) (m : LineMask) (p : Nat) :
    (s.copiesHigh m p).now = s.now
      ∧ (s.copiesHigh m p).pins = s.pins
      ∧ (s.copiesHigh m p).startup = s.startup
      ∧ (s.copiesHigh m p).travel = s.travel
      ∧ (s.copiesHigh m p).sensing = s.sensing
      ∧ (s.copiesHigh m p).zone = s.zone
      ∧ (s.copiesHigh m p).handoff = s.handoff
      ∧ (s.copiesHigh m p).slip = s.slip
      ∧ (s.copiesHigh m p).entry = s.entry
      ∧ (s.copiesHigh m p).lines.hostTrip = s.lines.hostTrip
      ∧ (s.copiesHigh m p).lines.signals = s.lines.signals
      ∧ (s.copiesHigh m p).strobe = s.strobe
      ∧ (s.copiesHigh m p).mill = s.mill
      ∧ (s.copiesHigh m p).port.held = s.port.held
      ∧ (s.copiesHigh m p).port.ready = s.port.ready
      ∧ (s.copiesHigh m p).port.attnEnable = s.port.attnEnable
      ∧ (s.copiesHigh m p).pending = s.pending := by
  unfold State.copiesHigh
  dsimp only
  split_ifs <;> simp

/-- What copies going low leaves unchanged. -/
@[simp] theorem State.copiesLow_frame (s : State) (m : LineMask) (p : Nat) :
    (s.copiesLow m p).now = s.now
      ∧ (s.copiesLow m p).pins = s.pins
      ∧ (s.copiesLow m p).startup = s.startup
      ∧ (s.copiesLow m p).travel = s.travel
      ∧ (s.copiesLow m p).sensing = s.sensing
      ∧ (s.copiesLow m p).zone = s.zone
      ∧ (s.copiesLow m p).handoff = s.handoff
      ∧ (s.copiesLow m p).slip = s.slip
      ∧ (s.copiesLow m p).entry = s.entry
      ∧ (s.copiesLow m p).lines.hostTrip = s.lines.hostTrip
      ∧ (s.copiesLow m p).lines.signals = s.lines.signals
      ∧ (s.copiesLow m p).strobe = s.strobe
      ∧ (s.copiesLow m p).mill = s.mill
      ∧ (s.copiesLow m p).port.held = s.port.held
      ∧ (s.copiesLow m p).port.ready = s.port.ready
      ∧ (s.copiesLow m p).port.attnEnable = s.port.attnEnable
      ∧ (s.copiesLow m p).pending = s.pending := by
  unfold State.copiesLow
  dsimp only
  split_ifs <;> simp

/-- What own asks ending leaves unchanged. -/
@[simp] theorem State.endAsks_frame (s : State) (m : LineMask) :
    (s.endAsks m).now = s.now
      ∧ (s.endAsks m).pins = s.pins
      ∧ (s.endAsks m).startup = s.startup
      ∧ (s.endAsks m).travel = s.travel
      ∧ (s.endAsks m).sensing = s.sensing
      ∧ (s.endAsks m).zone = s.zone
      ∧ (s.endAsks m).handoff = s.handoff
      ∧ (s.endAsks m).slip = s.slip
      ∧ (s.endAsks m).entry = s.entry
      ∧ (s.endAsks m).lines.hostTrip = s.lines.hostTrip
      ∧ (s.endAsks m).lines.signals = s.lines.signals
      ∧ (s.endAsks m).strobe = s.strobe
      ∧ (s.endAsks m).mill.rx = s.mill.rx
      ∧ (s.endAsks m).mill.ownTail = s.mill.ownTail
      ∧ (s.endAsks m).mill.idle = s.mill.idle
      ∧ (s.endAsks m).mill.sof = s.mill.sof
      ∧ (s.endAsks m).mill.queue = s.mill.queue
      ∧ (s.endAsks m).mill.flight = s.mill.flight
      ∧ (s.endAsks m).mill.rxErrors = s.mill.rxErrors
      ∧ (s.endAsks m).mill.overlong = s.mill.overlong
      ∧ (s.endAsks m).mill.unknownKinds = s.mill.unknownKinds
      ∧ (s.endAsks m).mill.txErrors = s.mill.txErrors
      ∧ (s.endAsks m).mill.txOverflows = s.mill.txOverflows
      ∧ (s.endAsks m).port = s.port
      ∧ (s.endAsks m).pending = s.pending := by
  simp [State.endAsks]

/-- What own asks beginning leaves unchanged. -/
@[simp] theorem State.beginAsks_frame (s : State) (m : LineMask) :
    (s.beginAsks m).now = s.now
      ∧ (s.beginAsks m).pins = s.pins
      ∧ (s.beginAsks m).startup = s.startup
      ∧ (s.beginAsks m).travel = s.travel
      ∧ (s.beginAsks m).sensing = s.sensing
      ∧ (s.beginAsks m).zone = s.zone
      ∧ (s.beginAsks m).handoff = s.handoff
      ∧ (s.beginAsks m).slip = s.slip
      ∧ (s.beginAsks m).entry = s.entry
      ∧ (s.beginAsks m).lines.hostTrip = s.lines.hostTrip
      ∧ (s.beginAsks m).lines.signals = s.lines.signals
      ∧ (s.beginAsks m).strobe = s.strobe
      ∧ (s.beginAsks m).mill.rx = s.mill.rx
      ∧ (s.beginAsks m).mill.ownTail = s.mill.ownTail
      ∧ (s.beginAsks m).mill.idle = s.mill.idle
      ∧ (s.beginAsks m).mill.sof = s.mill.sof
      ∧ (s.beginAsks m).mill.queue = s.mill.queue
      ∧ (s.beginAsks m).mill.flight = s.mill.flight
      ∧ (s.beginAsks m).mill.rxErrors = s.mill.rxErrors
      ∧ (s.beginAsks m).mill.overlong = s.mill.overlong
      ∧ (s.beginAsks m).mill.unknownKinds = s.mill.unknownKinds
      ∧ (s.beginAsks m).mill.txErrors = s.mill.txErrors
      ∧ (s.beginAsks m).mill.txOverflows = s.mill.txOverflows
      ∧ (s.beginAsks m).port = s.port
      ∧ (s.beginAsks m).pending = s.pending := by
  simp [State.beginAsks]

/-- What contributions rising leaves unchanged. -/
@[simp] theorem State.contributionsRise_frame (s : State) (m : LineMask) :
    (s.contributionsRise m).now = s.now
      ∧ (s.contributionsRise m).pins = s.pins
      ∧ (s.contributionsRise m).startup = s.startup
      ∧ (s.contributionsRise m).travel = s.travel
      ∧ (s.contributionsRise m).sensing = s.sensing
      ∧ (s.contributionsRise m).zone = s.zone
      ∧ (s.contributionsRise m).handoff = s.handoff
      ∧ (s.contributionsRise m).slip = s.slip
      ∧ (s.contributionsRise m).entry = s.entry
      ∧ (s.contributionsRise m).lines.hostTrip = s.lines.hostTrip
      ∧ (s.contributionsRise m).lines.signals = s.lines.signals
      ∧ (s.contributionsRise m).strobe = s.strobe
      ∧ (s.contributionsRise m).mill.rx = s.mill.rx
      ∧ (s.contributionsRise m).mill.ownTail = s.mill.ownTail
      ∧ (s.contributionsRise m).mill.idle = s.mill.idle
      ∧ (s.contributionsRise m).mill.sof = s.mill.sof
      ∧ (s.contributionsRise m).mill.queue = s.mill.queue
      ∧ (s.contributionsRise m).mill.flight = s.mill.flight
      ∧ (s.contributionsRise m).mill.rxErrors = s.mill.rxErrors
      ∧ (s.contributionsRise m).mill.overlong = s.mill.overlong
      ∧ (s.contributionsRise m).mill.unknownKinds = s.mill.unknownKinds
      ∧ (s.contributionsRise m).mill.txErrors = s.mill.txErrors
      ∧ (s.contributionsRise m).mill.txOverflows = s.mill.txOverflows
      ∧ (s.contributionsRise m).port = s.port
      ∧ (s.contributionsRise m).pending = s.pending := by
  simp [State.contributionsRise]

/-- What contributions falling leaves unchanged. -/
@[simp] theorem State.contributionsFall_frame (s : State) (m : LineMask) :
    (s.contributionsFall m).now = s.now
      ∧ (s.contributionsFall m).pins = s.pins
      ∧ (s.contributionsFall m).startup = s.startup
      ∧ (s.contributionsFall m).travel = s.travel
      ∧ (s.contributionsFall m).sensing = s.sensing
      ∧ (s.contributionsFall m).zone = s.zone
      ∧ (s.contributionsFall m).handoff = s.handoff
      ∧ (s.contributionsFall m).slip = s.slip
      ∧ (s.contributionsFall m).entry = s.entry
      ∧ (s.contributionsFall m).lines.hostTrip = s.lines.hostTrip
      ∧ (s.contributionsFall m).lines.signals = s.lines.signals
      ∧ (s.contributionsFall m).strobe = s.strobe
      ∧ (s.contributionsFall m).mill.rx = s.mill.rx
      ∧ (s.contributionsFall m).mill.ownTail = s.mill.ownTail
      ∧ (s.contributionsFall m).mill.idle = s.mill.idle
      ∧ (s.contributionsFall m).mill.sof = s.mill.sof
      ∧ (s.contributionsFall m).mill.queue = s.mill.queue
      ∧ (s.contributionsFall m).mill.flight = s.mill.flight
      ∧ (s.contributionsFall m).mill.rxErrors = s.mill.rxErrors
      ∧ (s.contributionsFall m).mill.overlong = s.mill.overlong
      ∧ (s.contributionsFall m).mill.unknownKinds = s.mill.unknownKinds
      ∧ (s.contributionsFall m).mill.txErrors = s.mill.txErrors
      ∧ (s.contributionsFall m).mill.txOverflows = s.mill.txOverflows
      ∧ (s.contributionsFall m).port = s.port
      ∧ (s.contributionsFall m).pending = s.pending := by
  simp [State.contributionsFall]

/-- What contributions formed afresh leaves unchanged. -/
@[simp] theorem State.formContributions_frame (s : State) (m : LineMask) :
    (s.formContributions m).now = s.now
      ∧ (s.formContributions m).pins = s.pins
      ∧ (s.formContributions m).startup = s.startup
      ∧ (s.formContributions m).travel = s.travel
      ∧ (s.formContributions m).sensing = s.sensing
      ∧ (s.formContributions m).zone = s.zone
      ∧ (s.formContributions m).handoff = s.handoff
      ∧ (s.formContributions m).slip = s.slip
      ∧ (s.formContributions m).entry = s.entry
      ∧ (s.formContributions m).lines.hostTrip = s.lines.hostTrip
      ∧ (s.formContributions m).lines.signals = s.lines.signals
      ∧ (s.formContributions m).strobe = s.strobe
      ∧ (s.formContributions m).mill.rx = s.mill.rx
      ∧ (s.formContributions m).mill.ownTail = s.mill.ownTail
      ∧ (s.formContributions m).mill.idle = s.mill.idle
      ∧ (s.formContributions m).mill.sof = s.mill.sof
      ∧ (s.formContributions m).mill.queue = s.mill.queue
      ∧ (s.formContributions m).mill.flight = s.mill.flight
      ∧ (s.formContributions m).mill.rxErrors = s.mill.rxErrors
      ∧ (s.formContributions m).mill.overlong = s.mill.overlong
      ∧ (s.formContributions m).mill.unknownKinds = s.mill.unknownKinds
      ∧ (s.formContributions m).mill.txErrors = s.mill.txErrors
      ∧ (s.formContributions m).mill.txOverflows = s.mill.txOverflows
      ∧ (s.formContributions m).port = s.port
      ∧ (s.formContributions m).pending = s.pending := by
  unfold State.formContributions
  dsimp only
  split_ifs <;> simp

/-- What the overdue/zone-full flag set leaves unchanged. -/
@[simp] theorem State.setOverdueFlag_frame (s : State) :
    s.setOverdueFlag.now = s.now
      ∧ s.setOverdueFlag.pins = s.pins
      ∧ s.setOverdueFlag.startup = s.startup
      ∧ s.setOverdueFlag.travel = s.travel
      ∧ s.setOverdueFlag.sensing = s.sensing
      ∧ s.setOverdueFlag.zone.queue = s.zone.queue
      ∧ s.setOverdueFlag.zone.earlyTakes = s.zone.earlyTakes
      ∧ s.setOverdueFlag.zone.thresholds = s.zone.thresholds
      ∧ s.setOverdueFlag.handoff = s.handoff
      ∧ s.setOverdueFlag.slip = s.slip
      ∧ s.setOverdueFlag.entry = s.entry
      ∧ s.setOverdueFlag.lines.hostTrip = s.lines.hostTrip
      ∧ s.setOverdueFlag.lines.signals = s.lines.signals
      ∧ s.setOverdueFlag.strobe = s.strobe
      ∧ s.setOverdueFlag.mill.rx = s.mill.rx
      ∧ s.setOverdueFlag.mill.ownTail = s.mill.ownTail
      ∧ s.setOverdueFlag.mill.idle = s.mill.idle
      ∧ s.setOverdueFlag.mill.sof = s.mill.sof
      ∧ s.setOverdueFlag.mill.queue = s.mill.queue
      ∧ s.setOverdueFlag.mill.flight = s.mill.flight
      ∧ s.setOverdueFlag.mill.rxErrors = s.mill.rxErrors
      ∧ s.setOverdueFlag.mill.overlong = s.mill.overlong
      ∧ s.setOverdueFlag.mill.unknownKinds = s.mill.unknownKinds
      ∧ s.setOverdueFlag.mill.txErrors = s.mill.txErrors
      ∧ s.setOverdueFlag.mill.txOverflows = s.mill.txOverflows
      ∧ s.setOverdueFlag.port = s.port
      ∧ s.setOverdueFlag.pending = s.pending := by
  simp [State.setOverdueFlag]

/-- What a full zone queue losing its front leaves unchanged. -/
@[simp] theorem State.makeRoom_frame (s : State) :
    s.makeRoom.now = s.now
      ∧ s.makeRoom.pins = s.pins
      ∧ s.makeRoom.startup = s.startup
      ∧ s.makeRoom.travel = s.travel
      ∧ s.makeRoom.sensing = s.sensing
      ∧ s.makeRoom.zone.earlyTakes = s.zone.earlyTakes
      ∧ s.makeRoom.zone.thresholds = s.zone.thresholds
      ∧ s.makeRoom.handoff = s.handoff
      ∧ s.makeRoom.slip = s.slip
      ∧ s.makeRoom.entry = s.entry
      ∧ s.makeRoom.lines.hostTrip = s.lines.hostTrip
      ∧ s.makeRoom.lines.signals = s.lines.signals
      ∧ s.makeRoom.strobe = s.strobe
      ∧ s.makeRoom.mill.rx = s.mill.rx
      ∧ s.makeRoom.mill.ownTail = s.mill.ownTail
      ∧ s.makeRoom.mill.idle = s.mill.idle
      ∧ s.makeRoom.mill.sof = s.mill.sof
      ∧ s.makeRoom.mill.queue = s.mill.queue
      ∧ s.makeRoom.mill.flight = s.mill.flight
      ∧ s.makeRoom.mill.rxErrors = s.mill.rxErrors
      ∧ s.makeRoom.mill.overlong = s.mill.overlong
      ∧ s.makeRoom.mill.unknownKinds = s.mill.unknownKinds
      ∧ s.makeRoom.mill.txErrors = s.mill.txErrors
      ∧ s.makeRoom.mill.txOverflows = s.mill.txOverflows
      ∧ s.makeRoom.port.held = s.port.held
      ∧ s.makeRoom.port.ready = s.port.ready
      ∧ s.makeRoom.port.attnEnable = s.port.attnEnable
      ∧ s.makeRoom.pending = s.pending := by
  unfold State.makeRoom
  split_ifs
  · simp
  · split <;> simp

/-- What the entry procedure leaves unchanged. -/
@[simp] theorem State.enterZone_frame (s : State) (r : FeatureRecord) :
    (s.enterZone r).now = s.now
      ∧ (s.enterZone r).pins = s.pins
      ∧ (s.enterZone r).startup = s.startup
      ∧ (s.enterZone r).travel = s.travel
      ∧ (s.enterZone r).sensing = s.sensing
      ∧ (s.enterZone r).zone.earlyTakes = s.zone.earlyTakes
      ∧ (s.enterZone r).zone.thresholds = s.zone.thresholds
      ∧ (s.enterZone r).handoff = s.handoff
      ∧ (s.enterZone r).slip = s.slip
      ∧ (s.enterZone r).entry = s.entry
      ∧ (s.enterZone r).lines.hostTrip = s.lines.hostTrip
      ∧ (s.enterZone r).lines.signals = s.lines.signals
      ∧ (s.enterZone r).strobe = s.strobe
      ∧ (s.enterZone r).mill.rx = s.mill.rx
      ∧ (s.enterZone r).mill.ownTail = s.mill.ownTail
      ∧ (s.enterZone r).mill.idle = s.mill.idle
      ∧ (s.enterZone r).mill.sof = s.mill.sof
      ∧ (s.enterZone r).mill.queue = s.mill.queue
      ∧ (s.enterZone r).mill.flight = s.mill.flight
      ∧ (s.enterZone r).mill.rxErrors = s.mill.rxErrors
      ∧ (s.enterZone r).mill.overlong = s.mill.overlong
      ∧ (s.enterZone r).mill.unknownKinds = s.mill.unknownKinds
      ∧ (s.enterZone r).mill.txErrors = s.mill.txErrors
      ∧ (s.enterZone r).mill.txOverflows = s.mill.txOverflows
      ∧ (s.enterZone r).port.held = s.port.held
      ∧ (s.enterZone r).port.ready = s.port.ready
      ∧ (s.enterZone r).port.attnEnable = s.port.attnEnable
      ∧ (s.enterZone r).pending = s.pending := by
  simp [State.enterZone]

/-- What the OFFER of an entry leaves unchanged. -/
@[simp] theorem State.offer_frame (s : State) (serial : Serial) (kind : FeatureKind) (tag : Option SetTag) :
    (s.offer serial kind tag).now = s.now
      ∧ (s.offer serial kind tag).pins = s.pins
      ∧ (s.offer serial kind tag).startup = s.startup
      ∧ (s.offer serial kind tag).travel = s.travel
      ∧ (s.offer serial kind tag).sensing = s.sensing
      ∧ (s.offer serial kind tag).zone = s.zone
      ∧ (s.offer serial kind tag).handoff = s.handoff
      ∧ (s.offer serial kind tag).slip = s.slip
      ∧ (s.offer serial kind tag).entry = s.entry
      ∧ (s.offer serial kind tag).lines = s.lines
      ∧ (s.offer serial kind tag).strobe = s.strobe
      ∧ (s.offer serial kind tag).mill.rx = s.mill.rx
      ∧ (s.offer serial kind tag).mill.ownTail = s.mill.ownTail
      ∧ (s.offer serial kind tag).mill.idle = s.mill.idle
      ∧ (s.offer serial kind tag).mill.sof = s.mill.sof
      ∧ (s.offer serial kind tag).mill.slots = s.mill.slots
      ∧ (s.offer serial kind tag).mill.flight = s.mill.flight
      ∧ (s.offer serial kind tag).mill.rxErrors = s.mill.rxErrors
      ∧ (s.offer serial kind tag).mill.overlong = s.mill.overlong
      ∧ (s.offer serial kind tag).mill.unknownKinds = s.mill.unknownKinds
      ∧ (s.offer serial kind tag).mill.txErrors = s.mill.txErrors
      ∧ (s.offer serial kind tag).port.held = s.port.held
      ∧ (s.offer serial kind tag).port.ready = s.port.ready
      ∧ (s.offer serial kind tag).port.attnEnable = s.port.attnEnable
      ∧ (s.offer serial kind tag).pending = s.pending := by
  unfold State.offer
  split_ifs <;> simp

/-- What a take counted as early or not leaves unchanged. -/
@[simp] theorem State.countEarly_frame (s : State) (r : FeatureRecord) :
    (s.countEarly r).now = s.now
      ∧ (s.countEarly r).pins = s.pins
      ∧ (s.countEarly r).startup = s.startup
      ∧ (s.countEarly r).travel = s.travel
      ∧ (s.countEarly r).sensing = s.sensing
      ∧ (s.countEarly r).zone.queue = s.zone.queue
      ∧ (s.countEarly r).zone.overdueFlag = s.zone.overdueFlag
      ∧ (s.countEarly r).zone.thresholds = s.zone.thresholds
      ∧ (s.countEarly r).handoff = s.handoff
      ∧ (s.countEarly r).slip = s.slip
      ∧ (s.countEarly r).entry = s.entry
      ∧ (s.countEarly r).lines = s.lines
      ∧ (s.countEarly r).strobe = s.strobe
      ∧ (s.countEarly r).mill = s.mill
      ∧ (s.countEarly r).port = s.port
      ∧ (s.countEarly r).pending = s.pending := by
  unfold State.countEarly
  split_ifs <;> simp

/-- What a removal leaves unchanged. -/
@[simp] theorem State.remove_frame (s : State) (ahead : List FeatureRecord) (cls : HandedClass) (own : Action) (behind : List FeatureRecord) :
    (s.remove ahead cls own behind).now = s.now
      ∧ (s.remove ahead cls own behind).pins = s.pins
      ∧ (s.remove ahead cls own behind).startup = s.startup
      ∧ (s.remove ahead cls own behind).travel = s.travel
      ∧ (s.remove ahead cls own behind).sensing = s.sensing
      ∧ (s.remove ahead cls own behind).zone.overdueFlag = s.zone.overdueFlag
      ∧ (s.remove ahead cls own behind).zone.earlyTakes = s.zone.earlyTakes
      ∧ (s.remove ahead cls own behind).zone.thresholds = s.zone.thresholds
      ∧ (s.remove ahead cls own behind).handoff = s.handoff
      ∧ (s.remove ahead cls own behind).slip = s.slip
      ∧ (s.remove ahead cls own behind).entry = s.entry
      ∧ (s.remove ahead cls own behind).lines.hostTrip = s.lines.hostTrip
      ∧ (s.remove ahead cls own behind).lines.signals = s.lines.signals
      ∧ (s.remove ahead cls own behind).strobe = s.strobe
      ∧ (s.remove ahead cls own behind).mill.rx = s.mill.rx
      ∧ (s.remove ahead cls own behind).mill.ownTail = s.mill.ownTail
      ∧ (s.remove ahead cls own behind).mill.idle = s.mill.idle
      ∧ (s.remove ahead cls own behind).mill.sof = s.mill.sof
      ∧ (s.remove ahead cls own behind).mill.queue = s.mill.queue
      ∧ (s.remove ahead cls own behind).mill.flight = s.mill.flight
      ∧ (s.remove ahead cls own behind).mill.rxErrors = s.mill.rxErrors
      ∧ (s.remove ahead cls own behind).mill.overlong = s.mill.overlong
      ∧ (s.remove ahead cls own behind).mill.unknownKinds = s.mill.unknownKinds
      ∧ (s.remove ahead cls own behind).mill.txErrors = s.mill.txErrors
      ∧ (s.remove ahead cls own behind).mill.txOverflows = s.mill.txOverflows
      ∧ (s.remove ahead cls own behind).port.held = s.port.held
      ∧ (s.remove ahead cls own behind).port.ready = s.port.ready
      ∧ (s.remove ahead cls own behind).port.attnEnable = s.port.attnEnable
      ∧ (s.remove ahead cls own behind).pending = s.pending := by
  simp [State.remove]

/-- What an expectation consumed or an anonymous tag issued leaves unchanged. -/
@[simp] theorem State.consumeExpected_frame (s : State) (kind : FeatureKind) :
    (s.consumeExpected kind).now = s.now
      ∧ (s.consumeExpected kind).pins = s.pins
      ∧ (s.consumeExpected kind).startup = s.startup
      ∧ (s.consumeExpected kind).travel = s.travel
      ∧ (s.consumeExpected kind).sensing = s.sensing
      ∧ (s.consumeExpected kind).zone = s.zone
      ∧ (s.consumeExpected kind).handoff.lastTake = s.handoff.lastTake
      ∧ (s.consumeExpected kind).handoff.paceTimer = s.handoff.paceTimer
      ∧ (s.consumeExpected kind).handoff.paceCounter = s.handoff.paceCounter
      ∧ (s.consumeExpected kind).handoff.up = s.handoff.up
      ∧ (s.consumeExpected kind).handoff.down = s.handoff.down
      ∧ (s.consumeExpected kind).handoff.unmatched = s.handoff.unmatched
      ∧ (s.consumeExpected kind).handoff.discarded = s.handoff.discarded
      ∧ (s.consumeExpected kind).slip = s.slip
      ∧ (s.consumeExpected kind).entry = s.entry
      ∧ (s.consumeExpected kind).lines = s.lines
      ∧ (s.consumeExpected kind).strobe = s.strobe
      ∧ (s.consumeExpected kind).mill = s.mill
      ∧ (s.consumeExpected kind).port.held = s.port.held
      ∧ (s.consumeExpected kind).port.ready = s.port.ready
      ∧ (s.consumeExpected kind).port.attnEnable = s.port.attnEnable
      ∧ (s.consumeExpected kind).pending = s.pending := by
  unfold State.consumeExpected
  split <;> simp

/-- What a JOIN expectation consumed or not leaves unchanged. -/
@[simp] theorem State.consumeJoin_frame (s : State) (serial : Serial) :
    (s.consumeJoin serial).now = s.now
      ∧ (s.consumeJoin serial).pins = s.pins
      ∧ (s.consumeJoin serial).startup = s.startup
      ∧ (s.consumeJoin serial).travel = s.travel
      ∧ (s.consumeJoin serial).sensing = s.sensing
      ∧ (s.consumeJoin serial).zone = s.zone
      ∧ (s.consumeJoin serial).handoff.anonCounter = s.handoff.anonCounter
      ∧ (s.consumeJoin serial).handoff.lastTake = s.handoff.lastTake
      ∧ (s.consumeJoin serial).handoff.paceTimer = s.handoff.paceTimer
      ∧ (s.consumeJoin serial).handoff.paceCounter = s.handoff.paceCounter
      ∧ (s.consumeJoin serial).handoff.up = s.handoff.up
      ∧ (s.consumeJoin serial).handoff.down = s.handoff.down
      ∧ (s.consumeJoin serial).handoff.unmatched = s.handoff.unmatched
      ∧ (s.consumeJoin serial).handoff.discarded = s.handoff.discarded
      ∧ (s.consumeJoin serial).slip = s.slip
      ∧ (s.consumeJoin serial).entry = s.entry
      ∧ (s.consumeJoin serial).lines = s.lines
      ∧ (s.consumeJoin serial).strobe = s.strobe
      ∧ (s.consumeJoin serial).mill = s.mill
      ∧ (s.consumeJoin serial).port.held = s.port.held
      ∧ (s.consumeJoin serial).port.ready = s.port.ready
      ∧ (s.consumeJoin serial).port.attnEnable = s.port.attnEnable
      ∧ (s.consumeJoin serial).pending = s.pending := by
  unfold State.consumeJoin
  split <;> simp

/-- What the offer of a sample by a TAKE leaves unchanged. -/
@[simp] theorem State.offerTakeSample_frame (s : State) (r : FeatureRecord) (age : Nat) :
    (s.offerTakeSample r age).now = s.now
      ∧ (s.offerTakeSample r age).pins = s.pins
      ∧ (s.offerTakeSample r age).startup = s.startup
      ∧ (s.offerTakeSample r age).travel = s.travel
      ∧ (s.offerTakeSample r age).sensing = s.sensing
      ∧ (s.offerTakeSample r age).zone = s.zone
      ∧ (s.offerTakeSample r age).handoff = s.handoff
      ∧ (s.offerTakeSample r age).entry = s.entry
      ∧ (s.offerTakeSample r age).lines = s.lines
      ∧ (s.offerTakeSample r age).strobe = s.strobe
      ∧ (s.offerTakeSample r age).mill = s.mill
      ∧ (s.offerTakeSample r age).port = s.port
      ∧ (s.offerTakeSample r age).pending = s.pending := by
  unfold State.offerTakeSample
  split_ifs <;> simp

/-- What the offer of a sample by an exit-rise leaves unchanged. -/
@[simp] theorem State.offerExitSample_frame (s : State) (r : FeatureRecord) (w : TravelWord) :
    (s.offerExitSample r w).now = s.now
      ∧ (s.offerExitSample r w).pins = s.pins
      ∧ (s.offerExitSample r w).startup = s.startup
      ∧ (s.offerExitSample r w).travel = s.travel
      ∧ (s.offerExitSample r w).sensing = s.sensing
      ∧ (s.offerExitSample r w).zone = s.zone
      ∧ (s.offerExitSample r w).handoff = s.handoff
      ∧ (s.offerExitSample r w).entry = s.entry
      ∧ (s.offerExitSample r w).lines = s.lines
      ∧ (s.offerExitSample r w).strobe = s.strobe
      ∧ (s.offerExitSample r w).mill = s.mill
      ∧ (s.offerExitSample r w).port = s.port
      ∧ (s.offerExitSample r w).pending = s.pending := by
  unfold State.offerExitSample
  split_ifs <;> simp

/-- What a detected take leaves unchanged. -/
@[simp] theorem State.detectedTake_frame (s : State) (kind : FeatureKind) (ev : SenseEvent) :
    (s.detectedTake kind ev).now = s.now
      ∧ (s.detectedTake kind ev).pins = s.pins
      ∧ (s.detectedTake kind ev).startup = s.startup
      ∧ (s.detectedTake kind ev).travel = s.travel
      ∧ (s.detectedTake kind ev).sensing = s.sensing
      ∧ (s.detectedTake kind ev).zone.earlyTakes = s.zone.earlyTakes
      ∧ (s.detectedTake kind ev).zone.thresholds = s.zone.thresholds
      ∧ (s.detectedTake kind ev).handoff.paceTimer = s.handoff.paceTimer
      ∧ (s.detectedTake kind ev).handoff.paceCounter = s.handoff.paceCounter
      ∧ (s.detectedTake kind ev).handoff.up = s.handoff.up
      ∧ (s.detectedTake kind ev).handoff.down = s.handoff.down
      ∧ (s.detectedTake kind ev).handoff.unmatched = s.handoff.unmatched
      ∧ (s.detectedTake kind ev).handoff.discarded = s.handoff.discarded
      ∧ (s.detectedTake kind ev).slip = s.slip
      ∧ (s.detectedTake kind ev).entry = s.entry
      ∧ (s.detectedTake kind ev).lines.hostTrip = s.lines.hostTrip
      ∧ (s.detectedTake kind ev).lines.signals = s.lines.signals
      ∧ (s.detectedTake kind ev).strobe = s.strobe
      ∧ (s.detectedTake kind ev).mill.rx = s.mill.rx
      ∧ (s.detectedTake kind ev).mill.ownTail = s.mill.ownTail
      ∧ (s.detectedTake kind ev).mill.idle = s.mill.idle
      ∧ (s.detectedTake kind ev).mill.sof = s.mill.sof
      ∧ (s.detectedTake kind ev).mill.flight = s.mill.flight
      ∧ (s.detectedTake kind ev).mill.rxErrors = s.mill.rxErrors
      ∧ (s.detectedTake kind ev).mill.overlong = s.mill.overlong
      ∧ (s.detectedTake kind ev).mill.unknownKinds = s.mill.unknownKinds
      ∧ (s.detectedTake kind ev).mill.txErrors = s.mill.txErrors
      ∧ (s.detectedTake kind ev).port.held = s.port.held
      ∧ (s.detectedTake kind ev).port.attnEnable = s.port.attnEnable
      ∧ (s.detectedTake kind ev).pending = s.pending := by
  simp [State.detectedTake]

/-- What a join arriving leaves unchanged. -/
@[simp] theorem State.joinArrives_frame (s : State) (o : Origin) (serial : Serial) (tag : Option SetTag) (est : Bool) (overrun age : Nat) :
    (s.joinArrives o serial tag est overrun age).now = s.now
      ∧ (s.joinArrives o serial tag est overrun age).pins = s.pins
      ∧ (s.joinArrives o serial tag est overrun age).startup = s.startup
      ∧ (s.joinArrives o serial tag est overrun age).travel = s.travel
      ∧ (s.joinArrives o serial tag est overrun age).sensing = s.sensing
      ∧ (s.joinArrives o serial tag est overrun age).zone.earlyTakes = s.zone.earlyTakes
      ∧ (s.joinArrives o serial tag est overrun age).zone.thresholds = s.zone.thresholds
      ∧ (s.joinArrives o serial tag est overrun age).handoff.anonCounter = s.handoff.anonCounter
      ∧ (s.joinArrives o serial tag est overrun age).handoff.paceTimer = s.handoff.paceTimer
      ∧ (s.joinArrives o serial tag est overrun age).handoff.paceCounter = s.handoff.paceCounter
      ∧ (s.joinArrives o serial tag est overrun age).handoff.up = s.handoff.up
      ∧ (s.joinArrives o serial tag est overrun age).handoff.down = s.handoff.down
      ∧ (s.joinArrives o serial tag est overrun age).handoff.unmatched = s.handoff.unmatched
      ∧ (s.joinArrives o serial tag est overrun age).handoff.discarded = s.handoff.discarded
      ∧ (s.joinArrives o serial tag est overrun age).slip = s.slip
      ∧ (s.joinArrives o serial tag est overrun age).entry = s.entry
      ∧ (s.joinArrives o serial tag est overrun age).lines.hostTrip = s.lines.hostTrip
      ∧ (s.joinArrives o serial tag est overrun age).lines.signals = s.lines.signals
      ∧ (s.joinArrives o serial tag est overrun age).mill.rx = s.mill.rx
      ∧ (s.joinArrives o serial tag est overrun age).mill.ownTail = s.mill.ownTail
      ∧ (s.joinArrives o serial tag est overrun age).mill.idle = s.mill.idle
      ∧ (s.joinArrives o serial tag est overrun age).mill.sof = s.mill.sof
      ∧ (s.joinArrives o serial tag est overrun age).mill.flight = s.mill.flight
      ∧ (s.joinArrives o serial tag est overrun age).mill.rxErrors = s.mill.rxErrors
      ∧ (s.joinArrives o serial tag est overrun age).mill.overlong = s.mill.overlong
      ∧ (s.joinArrives o serial tag est overrun age).mill.unknownKinds = s.mill.unknownKinds
      ∧ (s.joinArrives o serial tag est overrun age).mill.txErrors = s.mill.txErrors
      ∧ (s.joinArrives o serial tag est overrun age).port.held = s.port.held
      ∧ (s.joinArrives o serial tag est overrun age).port.attnEnable = s.port.attnEnable
      ∧ (s.joinArrives o serial tag est overrun age).pending = s.pending := by
  simp [State.joinArrives]

/-- What an offered feature leaves unchanged. -/
@[simp] theorem State.appendExpectation_frame (s : State) (e : Expectation) :
    (s.appendExpectation e).now = s.now
      ∧ (s.appendExpectation e).pins = s.pins
      ∧ (s.appendExpectation e).startup = s.startup
      ∧ (s.appendExpectation e).travel = s.travel
      ∧ (s.appendExpectation e).sensing = s.sensing
      ∧ (s.appendExpectation e).zone = s.zone
      ∧ (s.appendExpectation e).handoff.anonCounter = s.handoff.anonCounter
      ∧ (s.appendExpectation e).handoff.lastTake = s.handoff.lastTake
      ∧ (s.appendExpectation e).handoff.paceTimer = s.handoff.paceTimer
      ∧ (s.appendExpectation e).handoff.paceCounter = s.handoff.paceCounter
      ∧ (s.appendExpectation e).handoff.up = s.handoff.up
      ∧ (s.appendExpectation e).handoff.down = s.handoff.down
      ∧ (s.appendExpectation e).handoff.unmatched = s.handoff.unmatched
      ∧ (s.appendExpectation e).handoff.discarded = s.handoff.discarded
      ∧ (s.appendExpectation e).slip = s.slip
      ∧ (s.appendExpectation e).entry = s.entry
      ∧ (s.appendExpectation e).lines = s.lines
      ∧ (s.appendExpectation e).strobe = s.strobe
      ∧ (s.appendExpectation e).mill = s.mill
      ∧ (s.appendExpectation e).port.held = s.port.held
      ∧ (s.appendExpectation e).port.ready = s.port.ready
      ∧ (s.appendExpectation e).port.attnEnable = s.port.attnEnable
      ∧ (s.appendExpectation e).pending = s.pending := by
  unfold State.appendExpectation
  dsimp only
  split_ifs <;> simp

/-- What a usable TAKE leaves unchanged. -/
@[simp] theorem State.takeActs_frame (s : State) (serial : Serial) (kind : FeatureKind) (anon : Byte) (age : Nat) :
    (s.takeActs serial kind anon age).now = s.now
      ∧ (s.takeActs serial kind anon age).pins = s.pins
      ∧ (s.takeActs serial kind anon age).startup = s.startup
      ∧ (s.takeActs serial kind anon age).travel = s.travel
      ∧ (s.takeActs serial kind anon age).sensing = s.sensing
      ∧ (s.takeActs serial kind anon age).zone.overdueFlag = s.zone.overdueFlag
      ∧ (s.takeActs serial kind anon age).zone.thresholds = s.zone.thresholds
      ∧ (s.takeActs serial kind anon age).handoff.expectations = s.handoff.expectations
      ∧ (s.takeActs serial kind anon age).handoff.anonCounter = s.handoff.anonCounter
      ∧ (s.takeActs serial kind anon age).handoff.lastTake = s.handoff.lastTake
      ∧ (s.takeActs serial kind anon age).handoff.paceTimer = s.handoff.paceTimer
      ∧ (s.takeActs serial kind anon age).handoff.paceCounter = s.handoff.paceCounter
      ∧ (s.takeActs serial kind anon age).handoff.up = s.handoff.up
      ∧ (s.takeActs serial kind anon age).handoff.down = s.handoff.down
      ∧ (s.takeActs serial kind anon age).handoff.discarded = s.handoff.discarded
      ∧ (s.takeActs serial kind anon age).entry = s.entry
      ∧ (s.takeActs serial kind anon age).lines.hostTrip = s.lines.hostTrip
      ∧ (s.takeActs serial kind anon age).lines.signals = s.lines.signals
      ∧ (s.takeActs serial kind anon age).strobe = s.strobe
      ∧ (s.takeActs serial kind anon age).mill.rx = s.mill.rx
      ∧ (s.takeActs serial kind anon age).mill.ownTail = s.mill.ownTail
      ∧ (s.takeActs serial kind anon age).mill.idle = s.mill.idle
      ∧ (s.takeActs serial kind anon age).mill.sof = s.mill.sof
      ∧ (s.takeActs serial kind anon age).mill.flight = s.mill.flight
      ∧ (s.takeActs serial kind anon age).mill.rxErrors = s.mill.rxErrors
      ∧ (s.takeActs serial kind anon age).mill.overlong = s.mill.overlong
      ∧ (s.takeActs serial kind anon age).mill.unknownKinds = s.mill.unknownKinds
      ∧ (s.takeActs serial kind anon age).mill.txErrors = s.mill.txErrors
      ∧ (s.takeActs serial kind anon age).port.held = s.port.held
      ∧ (s.takeActs serial kind anon age).port.ready = s.port.ready
      ∧ (s.takeActs serial kind anon age).port.attnEnable = s.port.attnEnable
      ∧ (s.takeActs serial kind anon age).pending = s.pending := by
  unfold State.takeActs
  split
  · simp
  · dsimp only
    split_ifs <;> simp

/-- What a reported take leaves unchanged. -/
@[simp] theorem State.reportActs_frame (s : State) (t : Option TakeRef) :
    (s.reportActs t).now = s.now
      ∧ (s.reportActs t).pins = s.pins
      ∧ (s.reportActs t).startup = s.startup
      ∧ (s.reportActs t).travel = s.travel
      ∧ (s.reportActs t).sensing = s.sensing
      ∧ (s.reportActs t).zone.overdueFlag = s.zone.overdueFlag
      ∧ (s.reportActs t).zone.thresholds = s.zone.thresholds
      ∧ (s.reportActs t).handoff = s.handoff
      ∧ (s.reportActs t).slip = s.slip
      ∧ (s.reportActs t).entry = s.entry
      ∧ (s.reportActs t).lines.hostTrip = s.lines.hostTrip
      ∧ (s.reportActs t).lines.signals = s.lines.signals
      ∧ (s.reportActs t).strobe = s.strobe
      ∧ (s.reportActs t).mill.rx = s.mill.rx
      ∧ (s.reportActs t).mill.ownTail = s.mill.ownTail
      ∧ (s.reportActs t).mill.idle = s.mill.idle
      ∧ (s.reportActs t).mill.sof = s.mill.sof
      ∧ (s.reportActs t).mill.queue = s.mill.queue
      ∧ (s.reportActs t).mill.flight = s.mill.flight
      ∧ (s.reportActs t).mill.rxErrors = s.mill.rxErrors
      ∧ (s.reportActs t).mill.overlong = s.mill.overlong
      ∧ (s.reportActs t).mill.unknownKinds = s.mill.unknownKinds
      ∧ (s.reportActs t).mill.txErrors = s.mill.txErrors
      ∧ (s.reportActs t).mill.txOverflows = s.mill.txOverflows
      ∧ (s.reportActs t).port.held = s.port.held
      ∧ (s.reportActs t).port.ready = s.port.ready
      ∧ (s.reportActs t).port.attnEnable = s.port.attnEnable
      ∧ (s.reportActs t).pending = s.pending := by
  unfold State.reportActs
  split
  · simp
  · split_ifs
    · simp
    · split <;> simp

/-- What a BIND leaves unchanged. -/
@[simp] theorem State.bindActs_frame (s : State) (serial : Serial) (kind tag anon : Byte) :
    (s.bindActs serial kind tag anon).now = s.now
      ∧ (s.bindActs serial kind tag anon).pins = s.pins
      ∧ (s.bindActs serial kind tag anon).startup = s.startup
      ∧ (s.bindActs serial kind tag anon).travel = s.travel
      ∧ (s.bindActs serial kind tag anon).sensing = s.sensing
      ∧ (s.bindActs serial kind tag anon).zone.overdueFlag = s.zone.overdueFlag
      ∧ (s.bindActs serial kind tag anon).zone.earlyTakes = s.zone.earlyTakes
      ∧ (s.bindActs serial kind tag anon).zone.thresholds = s.zone.thresholds
      ∧ (s.bindActs serial kind tag anon).handoff = s.handoff
      ∧ (s.bindActs serial kind tag anon).slip = s.slip
      ∧ (s.bindActs serial kind tag anon).entry = s.entry
      ∧ (s.bindActs serial kind tag anon).lines = s.lines
      ∧ (s.bindActs serial kind tag anon).strobe = s.strobe
      ∧ (s.bindActs serial kind tag anon).mill = s.mill
      ∧ (s.bindActs serial kind tag anon).port.held = s.port.held
      ∧ (s.bindActs serial kind tag anon).port.ready = s.port.ready
      ∧ (s.bindActs serial kind tag anon).port.attnEnable = s.port.attnEnable
      ∧ (s.bindActs serial kind tag anon).pending = s.pending := by
  unfold State.bindActs
  split
  · simp
  · split_ifs
    · simp
    · split
      · simp
      · split_ifs <;> simp

/-- What the upstream record refreshed leaves unchanged. -/
@[simp] theorem State.refreshUp_frame (s : State) :
    s.refreshUp.now = s.now
      ∧ s.refreshUp.pins = s.pins
      ∧ s.refreshUp.startup = s.startup
      ∧ s.refreshUp.travel = s.travel
      ∧ s.refreshUp.sensing = s.sensing
      ∧ s.refreshUp.zone = s.zone
      ∧ s.refreshUp.handoff.expectations = s.handoff.expectations
      ∧ s.refreshUp.handoff.anonCounter = s.handoff.anonCounter
      ∧ s.refreshUp.handoff.lastTake = s.handoff.lastTake
      ∧ s.refreshUp.handoff.paceTimer = s.handoff.paceTimer
      ∧ s.refreshUp.handoff.paceCounter = s.handoff.paceCounter
      ∧ s.refreshUp.handoff.down = s.handoff.down
      ∧ s.refreshUp.handoff.unmatched = s.handoff.unmatched
      ∧ s.refreshUp.handoff.discarded = s.handoff.discarded
      ∧ s.refreshUp.slip = s.slip
      ∧ s.refreshUp.entry = s.entry
      ∧ s.refreshUp.lines = s.lines
      ∧ s.refreshUp.strobe = s.strobe
      ∧ s.refreshUp.mill = s.mill
      ∧ s.refreshUp.port.held = s.port.held
      ∧ s.refreshUp.port.ready = s.port.ready
      ∧ s.refreshUp.port.attnEnable = s.port.attnEnable
      ∧ s.refreshUp.pending = s.pending := by
  unfold State.refreshUp
  dsimp only
  split_ifs <;> simp

/-- What the downstream record refreshed leaves unchanged. -/
@[simp] theorem State.refreshDown_frame (s : State) :
    s.refreshDown.now = s.now
      ∧ s.refreshDown.pins = s.pins
      ∧ s.refreshDown.startup = s.startup
      ∧ s.refreshDown.travel = s.travel
      ∧ s.refreshDown.sensing = s.sensing
      ∧ s.refreshDown.zone = s.zone
      ∧ s.refreshDown.handoff.expectations = s.handoff.expectations
      ∧ s.refreshDown.handoff.anonCounter = s.handoff.anonCounter
      ∧ s.refreshDown.handoff.lastTake = s.handoff.lastTake
      ∧ s.refreshDown.handoff.paceTimer = s.handoff.paceTimer
      ∧ s.refreshDown.handoff.paceCounter = s.handoff.paceCounter
      ∧ s.refreshDown.handoff.up = s.handoff.up
      ∧ s.refreshDown.handoff.unmatched = s.handoff.unmatched
      ∧ s.refreshDown.handoff.discarded = s.handoff.discarded
      ∧ s.refreshDown.slip = s.slip
      ∧ s.refreshDown.entry = s.entry
      ∧ s.refreshDown.lines = s.lines
      ∧ s.refreshDown.strobe = s.strobe
      ∧ s.refreshDown.mill = s.mill
      ∧ s.refreshDown.port.held = s.port.held
      ∧ s.refreshDown.port.ready = s.port.ready
      ∧ s.refreshDown.port.attnEnable = s.port.attnEnable
      ∧ s.refreshDown.pending = s.pending := by
  unfold State.refreshDown
  dsimp only
  split_ifs <;> simp

/-- What a neighbour record refreshed leaves unchanged. -/
@[simp] theorem State.refreshFrom_frame (s : State) (arb : Arbitration) :
    (s.refreshFrom arb).now = s.now
      ∧ (s.refreshFrom arb).pins = s.pins
      ∧ (s.refreshFrom arb).startup = s.startup
      ∧ (s.refreshFrom arb).travel = s.travel
      ∧ (s.refreshFrom arb).sensing = s.sensing
      ∧ (s.refreshFrom arb).zone = s.zone
      ∧ (s.refreshFrom arb).handoff.expectations = s.handoff.expectations
      ∧ (s.refreshFrom arb).handoff.anonCounter = s.handoff.anonCounter
      ∧ (s.refreshFrom arb).handoff.lastTake = s.handoff.lastTake
      ∧ (s.refreshFrom arb).handoff.paceTimer = s.handoff.paceTimer
      ∧ (s.refreshFrom arb).handoff.paceCounter = s.handoff.paceCounter
      ∧ (s.refreshFrom arb).handoff.unmatched = s.handoff.unmatched
      ∧ (s.refreshFrom arb).handoff.discarded = s.handoff.discarded
      ∧ (s.refreshFrom arb).slip = s.slip
      ∧ (s.refreshFrom arb).entry = s.entry
      ∧ (s.refreshFrom arb).lines = s.lines
      ∧ (s.refreshFrom arb).strobe = s.strobe
      ∧ (s.refreshFrom arb).mill = s.mill
      ∧ (s.refreshFrom arb).port.held = s.port.held
      ∧ (s.refreshFrom arb).port.ready = s.port.ready
      ∧ (s.refreshFrom arb).port.attnEnable = s.port.attnEnable
      ∧ (s.refreshFrom arb).pending = s.pending := by
  unfold State.refreshFrom
  split_ifs <;> simp

/-- What FAULT ENTRY_MISMATCH or not leaves unchanged. -/
@[simp] theorem State.postMismatch_frame (s : State) (b : Bool) (serial : Serial) (k : FeatureKind) (tag : Option SetTag) :
    (s.postMismatch b serial k tag).now = s.now
      ∧ (s.postMismatch b serial k tag).pins = s.pins
      ∧ (s.postMismatch b serial k tag).startup = s.startup
      ∧ (s.postMismatch b serial k tag).travel = s.travel
      ∧ (s.postMismatch b serial k tag).sensing = s.sensing
      ∧ (s.postMismatch b serial k tag).zone = s.zone
      ∧ (s.postMismatch b serial k tag).handoff = s.handoff
      ∧ (s.postMismatch b serial k tag).slip = s.slip
      ∧ (s.postMismatch b serial k tag).entry = s.entry
      ∧ (s.postMismatch b serial k tag).lines = s.lines
      ∧ (s.postMismatch b serial k tag).strobe = s.strobe
      ∧ (s.postMismatch b serial k tag).mill = s.mill
      ∧ (s.postMismatch b serial k tag).port.held = s.port.held
      ∧ (s.postMismatch b serial k tag).port.ready = s.port.ready
      ∧ (s.postMismatch b serial k tag).port.attnEnable = s.port.attnEnable
      ∧ (s.postMismatch b serial k tag).pending = s.pending := by
  unfold State.postMismatch
  split_ifs <;> simp

/-- What FAULT JOIN_UNANNOUNCED or not leaves unchanged. -/
@[simp] theorem State.postUnannounced_frame (s : State) (b : Bool) :
    (s.postUnannounced b).now = s.now
      ∧ (s.postUnannounced b).pins = s.pins
      ∧ (s.postUnannounced b).startup = s.startup
      ∧ (s.postUnannounced b).travel = s.travel
      ∧ (s.postUnannounced b).sensing = s.sensing
      ∧ (s.postUnannounced b).zone = s.zone
      ∧ (s.postUnannounced b).handoff = s.handoff
      ∧ (s.postUnannounced b).slip = s.slip
      ∧ (s.postUnannounced b).entry = s.entry
      ∧ (s.postUnannounced b).lines = s.lines
      ∧ (s.postUnannounced b).strobe = s.strobe
      ∧ (s.postUnannounced b).mill = s.mill
      ∧ (s.postUnannounced b).port.held = s.port.held
      ∧ (s.postUnannounced b).port.ready = s.port.ready
      ∧ (s.postUnannounced b).port.attnEnable = s.port.attnEnable
      ∧ (s.postUnannounced b).pending = s.pending := by
  unfold State.postUnannounced
  split_ifs <;> simp

/-- What a bite at the entry station leaves unchanged. -/
@[simp] theorem State.entryBite_frame (s : State) (ev : SenseEvent) :
    (s.entryBite ev).now = s.now
      ∧ (s.entryBite ev).pins = s.pins
      ∧ (s.entryBite ev).startup = s.startup
      ∧ (s.entryBite ev).travel = s.travel
      ∧ (s.entryBite ev).sensing = s.sensing
      ∧ (s.entryBite ev).zone.earlyTakes = s.zone.earlyTakes
      ∧ (s.entryBite ev).zone.thresholds = s.zone.thresholds
      ∧ (s.entryBite ev).handoff = s.handoff
      ∧ (s.entryBite ev).slip = s.slip
      ∧ (s.entryBite ev).lines.hostTrip = s.lines.hostTrip
      ∧ (s.entryBite ev).lines.signals = s.lines.signals
      ∧ (s.entryBite ev).strobe = s.strobe
      ∧ (s.entryBite ev).mill.rx = s.mill.rx
      ∧ (s.entryBite ev).mill.ownTail = s.mill.ownTail
      ∧ (s.entryBite ev).mill.idle = s.mill.idle
      ∧ (s.entryBite ev).mill.sof = s.mill.sof
      ∧ (s.entryBite ev).mill.flight = s.mill.flight
      ∧ (s.entryBite ev).mill.rxErrors = s.mill.rxErrors
      ∧ (s.entryBite ev).mill.overlong = s.mill.overlong
      ∧ (s.entryBite ev).mill.unknownKinds = s.mill.unknownKinds
      ∧ (s.entryBite ev).mill.txErrors = s.mill.txErrors
      ∧ (s.entryBite ev).port.held = s.port.held
      ∧ (s.entryBite ev).port.attnEnable = s.port.attnEnable
      ∧ (s.entryBite ev).pending = s.pending := by
  simp [State.entryBite]

/-- What a release at the entry station leaves unchanged. -/
@[simp] theorem State.entryRelease_frame (s : State) (ev : SenseEvent) :
    (s.entryRelease ev).now = s.now
      ∧ (s.entryRelease ev).pins = s.pins
      ∧ (s.entryRelease ev).startup = s.startup
      ∧ (s.entryRelease ev).travel = s.travel
      ∧ (s.entryRelease ev).sensing = s.sensing
      ∧ (s.entryRelease ev).zone.earlyTakes = s.zone.earlyTakes
      ∧ (s.entryRelease ev).zone.thresholds = s.zone.thresholds
      ∧ (s.entryRelease ev).handoff = s.handoff
      ∧ (s.entryRelease ev).slip = s.slip
      ∧ (s.entryRelease ev).entry = s.entry
      ∧ (s.entryRelease ev).lines.hostTrip = s.lines.hostTrip
      ∧ (s.entryRelease ev).lines.signals = s.lines.signals
      ∧ (s.entryRelease ev).strobe = s.strobe
      ∧ (s.entryRelease ev).mill.rx = s.mill.rx
      ∧ (s.entryRelease ev).mill.ownTail = s.mill.ownTail
      ∧ (s.entryRelease ev).mill.idle = s.mill.idle
      ∧ (s.entryRelease ev).mill.sof = s.mill.sof
      ∧ (s.entryRelease ev).mill.flight = s.mill.flight
      ∧ (s.entryRelease ev).mill.rxErrors = s.mill.rxErrors
      ∧ (s.entryRelease ev).mill.overlong = s.mill.overlong
      ∧ (s.entryRelease ev).mill.unknownKinds = s.mill.unknownKinds
      ∧ (s.entryRelease ev).mill.txErrors = s.mill.txErrors
      ∧ (s.entryRelease ev).port.held = s.port.held
      ∧ (s.entryRelease ev).port.attnEnable = s.port.attnEnable
      ∧ (s.entryRelease ev).pending = s.pending := by
  simp [State.entryRelease]

/-- What a join strobe leaves unchanged. -/
@[simp] theorem State.entryJoin_frame (s : State) :
    s.entryJoin.now = s.now
      ∧ s.entryJoin.pins = s.pins
      ∧ s.entryJoin.startup = s.startup
      ∧ s.entryJoin.travel = s.travel
      ∧ s.entryJoin.sensing = s.sensing
      ∧ s.entryJoin.zone.earlyTakes = s.zone.earlyTakes
      ∧ s.entryJoin.zone.thresholds = s.zone.thresholds
      ∧ s.entryJoin.handoff = s.handoff
      ∧ s.entryJoin.slip = s.slip
      ∧ s.entryJoin.lines.hostTrip = s.lines.hostTrip
      ∧ s.entryJoin.lines.signals = s.lines.signals
      ∧ s.entryJoin.mill.rx = s.mill.rx
      ∧ s.entryJoin.mill.ownTail = s.mill.ownTail
      ∧ s.entryJoin.mill.idle = s.mill.idle
      ∧ s.entryJoin.mill.sof = s.mill.sof
      ∧ s.entryJoin.mill.flight = s.mill.flight
      ∧ s.entryJoin.mill.rxErrors = s.mill.rxErrors
      ∧ s.entryJoin.mill.overlong = s.mill.overlong
      ∧ s.entryJoin.mill.unknownKinds = s.mill.unknownKinds
      ∧ s.entryJoin.mill.txErrors = s.mill.txErrors
      ∧ s.entryJoin.port.held = s.port.held
      ∧ s.entryJoin.port.attnEnable = s.port.attnEnable
      ∧ s.entryJoin.pending = s.pending := by
  simp [State.entryJoin]

/-- What an exit-gate take leaves unchanged. -/
@[simp] theorem State.exitTake_frame (s : State) (k : FeatureKind) (ev : SenseEvent) :
    (s.exitTake k ev).now = s.now
      ∧ (s.exitTake k ev).pins = s.pins
      ∧ (s.exitTake k ev).startup = s.startup
      ∧ (s.exitTake k ev).travel = s.travel
      ∧ (s.exitTake k ev).sensing = s.sensing
      ∧ (s.exitTake k ev).zone.overdueFlag = s.zone.overdueFlag
      ∧ (s.exitTake k ev).zone.thresholds = s.zone.thresholds
      ∧ (s.exitTake k ev).handoff = s.handoff
      ∧ (s.exitTake k ev).entry = s.entry
      ∧ (s.exitTake k ev).lines.hostTrip = s.lines.hostTrip
      ∧ (s.exitTake k ev).lines.signals = s.lines.signals
      ∧ (s.exitTake k ev).strobe = s.strobe
      ∧ (s.exitTake k ev).mill.rx = s.mill.rx
      ∧ (s.exitTake k ev).mill.ownTail = s.mill.ownTail
      ∧ (s.exitTake k ev).mill.idle = s.mill.idle
      ∧ (s.exitTake k ev).mill.sof = s.mill.sof
      ∧ (s.exitTake k ev).mill.queue = s.mill.queue
      ∧ (s.exitTake k ev).mill.flight = s.mill.flight
      ∧ (s.exitTake k ev).mill.rxErrors = s.mill.rxErrors
      ∧ (s.exitTake k ev).mill.overlong = s.mill.overlong
      ∧ (s.exitTake k ev).mill.unknownKinds = s.mill.unknownKinds
      ∧ (s.exitTake k ev).mill.txErrors = s.mill.txErrors
      ∧ (s.exitTake k ev).mill.txOverflows = s.mill.txOverflows
      ∧ (s.exitTake k ev).port.held = s.port.held
      ∧ (s.exitTake k ev).port.ready = s.port.ready
      ∧ (s.exitTake k ev).port.attnEnable = s.port.attnEnable
      ∧ (s.exitTake k ev).pending = s.pending := by
  unfold State.exitTake
  split <;> simp

/-- What a RAISE or VETO received leaves unchanged. -/
@[simp] theorem State.lineHeld_frame (s : State) (m : LineMask) (p : Nat) :
    (s.lineHeld m p).now = s.now
      ∧ (s.lineHeld m p).pins = s.pins
      ∧ (s.lineHeld m p).startup = s.startup
      ∧ (s.lineHeld m p).travel = s.travel
      ∧ (s.lineHeld m p).sensing = s.sensing
      ∧ (s.lineHeld m p).zone = s.zone
      ∧ (s.lineHeld m p).handoff = s.handoff
      ∧ (s.lineHeld m p).slip = s.slip
      ∧ (s.lineHeld m p).entry = s.entry
      ∧ (s.lineHeld m p).lines.hostTrip = s.lines.hostTrip
      ∧ (s.lineHeld m p).lines.signals = s.lines.signals
      ∧ (s.lineHeld m p).strobe = s.strobe
      ∧ (s.lineHeld m p).mill.rx = s.mill.rx
      ∧ (s.lineHeld m p).mill.ownTail = s.mill.ownTail
      ∧ (s.lineHeld m p).mill.idle = s.mill.idle
      ∧ (s.lineHeld m p).mill.sof = s.mill.sof
      ∧ (s.lineHeld m p).mill.queue = s.mill.queue
      ∧ (s.lineHeld m p).mill.flight = s.mill.flight
      ∧ (s.lineHeld m p).mill.rxErrors = s.mill.rxErrors
      ∧ (s.lineHeld m p).mill.overlong = s.mill.overlong
      ∧ (s.lineHeld m p).mill.unknownKinds = s.mill.unknownKinds
      ∧ (s.lineHeld m p).mill.txErrors = s.mill.txErrors
      ∧ (s.lineHeld m p).mill.txOverflows = s.mill.txOverflows
      ∧ (s.lineHeld m p).port.held = s.port.held
      ∧ (s.lineHeld m p).port.ready = s.port.ready
      ∧ (s.lineHeld m p).port.attnEnable = s.port.attnEnable
      ∧ (s.lineHeld m p).pending = s.pending := by
  simp [State.lineHeld]

/-- What an ASK received leaves unchanged. -/
@[simp] theorem State.lineAsked_frame (s : State) (m : LineMask) :
    (s.lineAsked m).now = s.now
      ∧ (s.lineAsked m).pins = s.pins
      ∧ (s.lineAsked m).startup = s.startup
      ∧ (s.lineAsked m).travel = s.travel
      ∧ (s.lineAsked m).sensing = s.sensing
      ∧ (s.lineAsked m).zone = s.zone
      ∧ (s.lineAsked m).handoff = s.handoff
      ∧ (s.lineAsked m).slip = s.slip
      ∧ (s.lineAsked m).entry = s.entry
      ∧ (s.lineAsked m).lines.hostTrip = s.lines.hostTrip
      ∧ (s.lineAsked m).lines.signals = s.lines.signals
      ∧ (s.lineAsked m).strobe = s.strobe
      ∧ (s.lineAsked m).mill.rx = s.mill.rx
      ∧ (s.lineAsked m).mill.ownTail = s.mill.ownTail
      ∧ (s.lineAsked m).mill.idle = s.mill.idle
      ∧ (s.lineAsked m).mill.sof = s.mill.sof
      ∧ (s.lineAsked m).mill.queue = s.mill.queue
      ∧ (s.lineAsked m).mill.flight = s.mill.flight
      ∧ (s.lineAsked m).mill.rxErrors = s.mill.rxErrors
      ∧ (s.lineAsked m).mill.overlong = s.mill.overlong
      ∧ (s.lineAsked m).mill.unknownKinds = s.mill.unknownKinds
      ∧ (s.lineAsked m).mill.txErrors = s.mill.txErrors
      ∧ (s.lineAsked m).mill.txOverflows = s.mill.txOverflows
      ∧ (s.lineAsked m).port = s.port
      ∧ (s.lineAsked m).pending = s.pending := by
  simp [State.lineAsked]

/-- What a DROP received leaves unchanged. -/
@[simp] theorem State.lineDropped_frame (s : State) (m : LineMask) (p : Nat) :
    (s.lineDropped m p).now = s.now
      ∧ (s.lineDropped m p).pins = s.pins
      ∧ (s.lineDropped m p).startup = s.startup
      ∧ (s.lineDropped m p).travel = s.travel
      ∧ (s.lineDropped m p).sensing = s.sensing
      ∧ (s.lineDropped m p).zone = s.zone
      ∧ (s.lineDropped m p).handoff = s.handoff
      ∧ (s.lineDropped m p).slip = s.slip
      ∧ (s.lineDropped m p).entry = s.entry
      ∧ (s.lineDropped m p).lines.hostTrip = s.lines.hostTrip
      ∧ (s.lineDropped m p).lines.signals = s.lines.signals
      ∧ (s.lineDropped m p).strobe = s.strobe
      ∧ (s.lineDropped m p).mill.rx = s.mill.rx
      ∧ (s.lineDropped m p).mill.ownTail = s.mill.ownTail
      ∧ (s.lineDropped m p).mill.idle = s.mill.idle
      ∧ (s.lineDropped m p).mill.sof = s.mill.sof
      ∧ (s.lineDropped m p).mill.queue = s.mill.queue
      ∧ (s.lineDropped m p).mill.flight = s.mill.flight
      ∧ (s.lineDropped m p).mill.rxErrors = s.mill.rxErrors
      ∧ (s.lineDropped m p).mill.overlong = s.mill.overlong
      ∧ (s.lineDropped m p).mill.unknownKinds = s.mill.unknownKinds
      ∧ (s.lineDropped m p).mill.txErrors = s.mill.txErrors
      ∧ (s.lineDropped m p).mill.txOverflows = s.mill.txOverflows
      ∧ (s.lineDropped m p).port.held = s.port.held
      ∧ (s.lineDropped m p).port.ready = s.port.ready
      ∧ (s.lineDropped m p).port.attnEnable = s.port.attnEnable
      ∧ (s.lineDropped m p).pending = s.pending := by
  simp [State.lineDropped]

/-- What a train-line frame sent leaves unchanged. -/
@[simp] theorem State.lineFrameSent_frame (s : State) (k : LineKind) (m : LineMask) :
    (s.lineFrameSent k m).now = s.now
      ∧ (s.lineFrameSent k m).pins = s.pins
      ∧ (s.lineFrameSent k m).startup = s.startup
      ∧ (s.lineFrameSent k m).travel = s.travel
      ∧ (s.lineFrameSent k m).sensing = s.sensing
      ∧ (s.lineFrameSent k m).zone = s.zone
      ∧ (s.lineFrameSent k m).handoff = s.handoff
      ∧ (s.lineFrameSent k m).slip = s.slip
      ∧ (s.lineFrameSent k m).entry = s.entry
      ∧ (s.lineFrameSent k m).lines.hostTrip = s.lines.hostTrip
      ∧ (s.lineFrameSent k m).lines.signals = s.lines.signals
      ∧ (s.lineFrameSent k m).strobe = s.strobe
      ∧ (s.lineFrameSent k m).mill.rx = s.mill.rx
      ∧ (s.lineFrameSent k m).mill.ownTail = s.mill.ownTail
      ∧ (s.lineFrameSent k m).mill.idle = s.mill.idle
      ∧ (s.lineFrameSent k m).mill.sof = s.mill.sof
      ∧ (s.lineFrameSent k m).mill.queue = s.mill.queue
      ∧ (s.lineFrameSent k m).mill.flight = s.mill.flight
      ∧ (s.lineFrameSent k m).mill.rxErrors = s.mill.rxErrors
      ∧ (s.lineFrameSent k m).mill.overlong = s.mill.overlong
      ∧ (s.lineFrameSent k m).mill.unknownKinds = s.mill.unknownKinds
      ∧ (s.lineFrameSent k m).mill.txErrors = s.mill.txErrors
      ∧ (s.lineFrameSent k m).mill.txOverflows = s.mill.txOverflows
      ∧ (s.lineFrameSent k m).port.held = s.port.held
      ∧ (s.lineFrameSent k m).port.ready = s.port.ready
      ∧ (s.lineFrameSent k m).port.attnEnable = s.port.attnEnable
      ∧ (s.lineFrameSent k m).pending = s.pending := by
  cases k <;> simp [State.lineFrameSent, State.raiseSent, State.askSent, State.vetoSent, State.dropSent]

/-- What lines of an unsent frame returning leaves unchanged. -/
@[simp] theorem State.returnLines_frame (s : State) (k : LineKind) (m : LineMask) (at_ : Nat) :
    (s.returnLines k m at_).now = s.now
      ∧ (s.returnLines k m at_).pins = s.pins
      ∧ (s.returnLines k m at_).startup = s.startup
      ∧ (s.returnLines k m at_).travel = s.travel
      ∧ (s.returnLines k m at_).sensing = s.sensing
      ∧ (s.returnLines k m at_).zone = s.zone
      ∧ (s.returnLines k m at_).handoff = s.handoff
      ∧ (s.returnLines k m at_).slip = s.slip
      ∧ (s.returnLines k m at_).entry = s.entry
      ∧ (s.returnLines k m at_).lines = s.lines
      ∧ (s.returnLines k m at_).strobe = s.strobe
      ∧ (s.returnLines k m at_).mill.rx = s.mill.rx
      ∧ (s.returnLines k m at_).mill.ownTail = s.mill.ownTail
      ∧ (s.returnLines k m at_).mill.idle = s.mill.idle
      ∧ (s.returnLines k m at_).mill.sof = s.mill.sof
      ∧ (s.returnLines k m at_).mill.queue = s.mill.queue
      ∧ (s.returnLines k m at_).mill.flight = s.mill.flight
      ∧ (s.returnLines k m at_).mill.rxErrors = s.mill.rxErrors
      ∧ (s.returnLines k m at_).mill.overlong = s.mill.overlong
      ∧ (s.returnLines k m at_).mill.unknownKinds = s.mill.unknownKinds
      ∧ (s.returnLines k m at_).mill.txErrors = s.mill.txErrors
      ∧ (s.returnLines k m at_).mill.txOverflows = s.mill.txOverflows
      ∧ (s.returnLines k m at_).port = s.port
      ∧ (s.returnLines k m at_).pending = s.pending := by
  simp [State.returnLines]

/-- What TRACKING being entered leaves unchanged. -/
@[simp] theorem State.armDetectors_frame (s : State) :
    s.armDetectors.now = s.now
      ∧ s.armDetectors.pins = s.pins
      ∧ s.armDetectors.startup = s.startup
      ∧ s.armDetectors.travel = s.travel
      ∧ s.armDetectors.sensing.qualifyFail = s.sensing.qualifyFail
      ∧ s.armDetectors.sensing.inhibit = s.sensing.inhibit
      ∧ s.armDetectors.zone = s.zone
      ∧ s.armDetectors.handoff = s.handoff
      ∧ s.armDetectors.slip = s.slip
      ∧ s.armDetectors.entry = s.entry
      ∧ s.armDetectors.lines = s.lines
      ∧ s.armDetectors.strobe = s.strobe
      ∧ s.armDetectors.mill = s.mill
      ∧ s.armDetectors.port.held = s.port.held
      ∧ s.armDetectors.port.ready = s.port.ready
      ∧ s.armDetectors.port.attnEnable = s.port.attnEnable
      ∧ s.armDetectors.pending = s.pending := by
  unfold State.armDetectors
  dsimp only
  split_ifs <;> simp

/-! ### Qualified levels -/

/-- What delivering a bite or release leaves unchanged. -/
@[simp] theorem State.deliverLoad_frame (s : State) (k : FeatureKind) (ev : SenseEvent) :
    (s.deliverLoad k ev).now = s.now
      ∧ (s.deliverLoad k ev).pins = s.pins
      ∧ (s.deliverLoad k ev).startup = s.startup
      ∧ (s.deliverLoad k ev).travel = s.travel
      ∧ (s.deliverLoad k ev).lines.hostTrip = s.lines.hostTrip
      ∧ (s.deliverLoad k ev).lines.signals = s.lines.signals
      ∧ (s.deliverLoad k ev).mill.rx = s.mill.rx
      ∧ (s.deliverLoad k ev).mill.ownTail = s.mill.ownTail
      ∧ (s.deliverLoad k ev).mill.idle = s.mill.idle
      ∧ (s.deliverLoad k ev).mill.sof = s.mill.sof
      ∧ (s.deliverLoad k ev).mill.flight = s.mill.flight
      ∧ (s.deliverLoad k ev).mill.rxErrors = s.mill.rxErrors
      ∧ (s.deliverLoad k ev).mill.overlong = s.mill.overlong
      ∧ (s.deliverLoad k ev).mill.unknownKinds = s.mill.unknownKinds
      ∧ (s.deliverLoad k ev).mill.txErrors = s.mill.txErrors
      ∧ (s.deliverLoad k ev).port.held = s.port.held
      ∧ (s.deliverLoad k ev).port.attnEnable = s.port.attnEnable
      ∧ (s.deliverLoad k ev).pending = s.pending := by
  unfold State.deliverLoad
  split_ifs <;> simp

/-- What accepting a level on LOAD leaves unchanged (R41). -/
@[simp] theorem State.acceptLoad_frame (s : State) :
    s.acceptLoad.pins = s.pins
      ∧ s.acceptLoad.startup = s.startup
      ∧ s.acceptLoad.travel = s.travel
      ∧ s.acceptLoad.lines.hostTrip = s.lines.hostTrip
      ∧ s.acceptLoad.lines.signals = s.lines.signals
      ∧ s.acceptLoad.mill.rx = s.mill.rx
      ∧ s.acceptLoad.mill.ownTail = s.mill.ownTail
      ∧ s.acceptLoad.mill.idle = s.mill.idle
      ∧ s.acceptLoad.mill.sof = s.mill.sof
      ∧ s.acceptLoad.mill.flight = s.mill.flight
      ∧ s.acceptLoad.mill.rxErrors = s.mill.rxErrors
      ∧ s.acceptLoad.mill.overlong = s.mill.overlong
      ∧ s.acceptLoad.mill.unknownKinds = s.mill.unknownKinds
      ∧ s.acceptLoad.mill.txErrors = s.mill.txErrors
      ∧ s.acceptLoad.port.held = s.port.held
      ∧ s.acceptLoad.port.attnEnable = s.port.attnEnable
      ∧ s.acceptLoad.pending = s.pending := by
  unfold State.acceptLoad
  split <;> simp

/-- What accepting a level on EXIT leaves unchanged (R41). -/
@[simp] theorem State.acceptExit_frame (s : State) :
    s.acceptExit.pins = s.pins
      ∧ s.acceptExit.startup = s.startup
      ∧ s.acceptExit.travel = s.travel
      ∧ s.acceptExit.lines.hostTrip = s.lines.hostTrip
      ∧ s.acceptExit.lines.signals = s.lines.signals
      ∧ s.acceptExit.mill.rx = s.mill.rx
      ∧ s.acceptExit.mill.ownTail = s.mill.ownTail
      ∧ s.acceptExit.mill.idle = s.mill.idle
      ∧ s.acceptExit.mill.sof = s.mill.sof
      ∧ s.acceptExit.mill.flight = s.mill.flight
      ∧ s.acceptExit.mill.rxErrors = s.mill.rxErrors
      ∧ s.acceptExit.mill.overlong = s.mill.overlong
      ∧ s.acceptExit.mill.unknownKinds = s.mill.unknownKinds
      ∧ s.acceptExit.mill.txErrors = s.mill.txErrors
      ∧ s.acceptExit.port.held = s.port.held
      ∧ s.acceptExit.port.attnEnable = s.port.attnEnable
      ∧ s.acceptExit.pending = s.pending := by
  unfold State.acceptExit
  split <;> simp

/-- A level on LOAD that has not been held for longer than the qualify time is not settled (R41). -/
theorem State.settleLoad_early (s : State) (moment : Nat)
    (h : ∀ time, s.sensing.load.edgeTime = some time → moment ≤ time + s.startup.config.qualify) :
    s.settleLoad moment = s := by
  unfold State.settleLoad Detector.heldLonger
  cases e : s.sensing.load.edgeTime with
  | none => simp
  | some time => simp [h time e]

/-- A level on EXIT that has not been held for longer than the qualify time is not settled (R41). -/
theorem State.settleExit_early (s : State) (moment : Nat)
    (h : ∀ time, s.sensing.exit.edgeTime = some time → moment ≤ time + s.startup.config.qualify) :
    s.settleExit moment = s := by
  unfold State.settleExit Detector.heldLonger
  cases e : s.sensing.exit.edgeTime with
  | none => simp
  | some time => simp [h time e]

/-- A level on LOAD held for longer than the qualify time delivers its event (R41). -/
theorem State.settleLoad_late (s : State) (moment time : Nat) (h : s.sensing.load.edgeTime = some time)
    (l : time + s.startup.config.qualify < moment) : s.settleLoad moment = s.acceptLoad := by
  simp [State.settleLoad, Detector.heldLonger, h, l]

/-- A level on EXIT held for longer than the qualify time delivers its event (R41). -/
theorem State.settleExit_late (s : State) (moment time : Nat) (h : s.sensing.exit.edgeTime = some time)
    (l : time + s.startup.config.qualify < moment) : s.settleExit moment = s.acceptExit := by
  simp [State.settleExit, Detector.heldLonger, h, l]

/-- What settling both inputs leaves unchanged. -/
@[simp] theorem State.settleBoth_frame (s : State) (moment : Nat) :
    (s.settleBoth moment).pins = s.pins
      ∧ (s.settleBoth moment).startup = s.startup
      ∧ (s.settleBoth moment).travel = s.travel
      ∧ (s.settleBoth moment).lines.hostTrip = s.lines.hostTrip
      ∧ (s.settleBoth moment).lines.signals = s.lines.signals
      ∧ (s.settleBoth moment).mill.rx = s.mill.rx
      ∧ (s.settleBoth moment).mill.ownTail = s.mill.ownTail
      ∧ (s.settleBoth moment).mill.idle = s.mill.idle
      ∧ (s.settleBoth moment).mill.sof = s.mill.sof
      ∧ (s.settleBoth moment).mill.flight = s.mill.flight
      ∧ (s.settleBoth moment).mill.rxErrors = s.mill.rxErrors
      ∧ (s.settleBoth moment).mill.overlong = s.mill.overlong
      ∧ (s.settleBoth moment).mill.unknownKinds = s.mill.unknownKinds
      ∧ (s.settleBoth moment).mill.txErrors = s.mill.txErrors
      ∧ (s.settleBoth moment).port.held = s.port.held
      ∧ (s.settleBoth moment).port.attnEnable = s.port.attnEnable
      ∧ (s.settleBoth moment).pending = s.pending := by
  have hl : ∀ u : State, u.settleLoad moment = u ∨ u.settleLoad moment = u.acceptLoad := by
    intro u
    unfold State.settleLoad
    split_ifs <;> simp
  have he : ∀ u : State, u.settleExit moment = u ∨ u.settleExit moment = u.acceptExit := by
    intro u
    unfold State.settleExit
    split_ifs <;> simp
  unfold State.settleBoth
  split_ifs
  · rcases he s with h | h <;> rcases hl (s.settleExit moment) with g | g <;> rw [g, h] <;> simp
  · rcases hl s with h | h <;> rcases he (s.settleLoad moment) with g | g <;> rw [g, h] <;> simp

/-! ### Actions -/

/-- Actions that find room stand in the queue in the order of posting (R160). -/
theorem State.postAll_actions (s : State) (as : List Action)
    (h : s.port.actions.length + as.length ≤ Config.actionCapacity) :
    (s.postAll as).port.actions = s.port.actions ++ as := by
  induction as generalizing s with
  | nil => simp [State.postAll]
  | cons a as ih =>
    simp only [List.length_cons] at h
    have hlt : s.port.actions.length < Config.actionCapacity := by omega
    have hp : (s.post a).port.actions = s.port.actions ++ [a] := by simp [hlt]
    have := ih (s.post a) (by rw [hp]; simp; omega)
    simp only [State.postAll, List.foldl_cons] at this ⊢
    rw [this, hp]
    simp

/-- Posting leaves the latch set when anything is posted (R162). -/
theorem State.postAll_attnLatch (s : State) (as : List Action) :
    (s.postAll as).port.attnLatch = (s.port.attnLatch || !as.isEmpty) := by
  induction as generalizing s with
  | nil => simp [State.postAll]
  | cons a as ih =>
    have := ih (s.post a)
    simp only [State.postAll, List.foldl_cons] at this ⊢
    simp [this]

/-! ### Transmit queue -/

/-- A frame that finds a free place and replaces no PACE is placed as the youngest, and nothing else changes (R143). -/
theorem State.enqueue_free (s : State) (body : FrameBody) (age : Option AgeCount)
    (hp : body.isPace = true → s.mill.queue.any (fun g => g.body.isPace) = false)
    (hl : s.mill.queue.length < Config.placeCapacity) :
    s.enqueue body age
      = { s with mill := { s.mill with queue := s.mill.queue ++ [{ body := body, age := age, flying := false }] } } := by
  unfold State.enqueue
  dsimp only
  split_ifs with h1
  · exact absurd h1.2 (by simp [hp h1.1])
  · rfl

/-- Handing a frame to the transmit queue never makes it longer than its eight places (R142, R143). -/
theorem State.enqueue_length (s : State) (body : FrameBody) (age : Option AgeCount)
    (h : s.mill.queue.length ≤ Config.placeCapacity) :
    (s.enqueue body age).mill.queue.length ≤ Config.placeCapacity := by
  unfold State.enqueue
  dsimp only
  split_ifs with h1 h2 h3 h4
  · simpa using h
  · simp; omega
  · simpa using h
  · have := dropLastWhere_length h4
    simp
    omega
  · simpa using h

/-! ### Zone queue -/

/-- The queue after the fourth step of entry: as it stood, or without its front when it was full (R7). -/
theorem State.makeRoom_queue (s : State) :
    s.makeRoom.zone.queue
      = if s.zone.queue.length < Config.zoneCapacity then s.zone.queue else s.zone.queue.tail := by
  unfold State.makeRoom
  split_ifs
  · rfl
  · split <;> simp_all

/-- The zone queue after an entry (R4 to R7): the entered record stands as the youngest. -/
theorem State.enterZone_queue (s : State) (r : FeatureRecord) :
    (s.enterZone r).zone.queue
      = (if s.zone.queue.length < Config.zoneCapacity then s.zone.queue else s.zone.queue.tail)
        ++ [enteredRecord s.travel.z s.zone.queue r] := by
  simp [State.enterZone, State.makeRoom_queue]

/-- The zone queue after a removal holds what stood behind the named record (R9). -/
@[simp] theorem State.remove_queue (s : State) (ahead : List FeatureRecord) (cls : HandedClass) (own : Action)
    (behind : List FeatureRecord) : (s.remove ahead cls own behind).zone.queue = behind := by
  simp [State.remove]

/-! ### Train lines -/

/-- Changes of the train lines that keep the copies keep the mask of copies. -/
theorem State.copies_mapLines (s : State) (m : LineMask) (f : TrainLine → TrainLine) (h : ∀ l, (f l).copy = l.copy) :
    (s.mapLines m f).copies = s.copies := by
  apply LineMask.ext_fin
  intro n
  simp only [State.copies, State.mapLines_fields, Eight.mask_getLsbD, Eight.get_mapMask]
  split <;> simp [h]

/-- Changes of the train lines that keep the contributions keep the mask of contributions. -/
theorem State.contributions_mapLines (s : State) (m : LineMask) (f : TrainLine → TrainLine)
    (h : ∀ l, (f l).contribution = l.contribution) : (s.mapLines m f).contributions = s.contributions := by
  apply LineMask.ext_fin
  intro n
  simp only [State.contributions, State.mapLines_fields, Eight.mask_getLsbD, Eight.get_mapMask]
  split <;> simp [h]

/-- The contributions after those of a mask are set or cleared. -/
theorem State.contributions_write (s : State) (m : LineMask) (c : Bool) :
    (s.mapLines m (TrainLine.withContribution c)).contributions
      = if c then s.contributions ||| m else s.contributions &&& ~~~m := by
  apply LineMask.ext_fin
  intro n
  have hn := n.isLt
  cases c <;> cases hm : m.getLsbD n.val <;>
    simp only [State.contributions, State.mapLines_fields, Eight.mask_getLsbD, Eight.get_mapMask,
      TrainLine.withContribution, hm, if_true, if_false, Bool.false_eq_true, BitVec.getLsbD_or, BitVec.getLsbD_and,
      BitVec.getLsbD_not, hn, decide_true, Bool.not_false, Bool.not_true, Bool.and_true, Bool.and_false,
      Bool.or_true, Bool.or_false]

/-- Merging a train-line frame leaves the contributions. -/
@[simp] theorem State.contributions_merge (s : State) (k : LineKind) (m : LineMask) :
    (s.merge k m).contributions = s.contributions := rfl

/-- Removing lines from a slot leaves the contributions. -/
@[simp] theorem State.contributions_unmerge (s : State) (k : LineKind) (m : LineMask) :
    (s.unmerge k m).contributions = s.contributions := rfl

/-- Ending asks leaves the contributions. -/
@[simp] theorem State.contributions_endAsks (s : State) (m : LineMask) :
    (s.endAsks m).contributions = s.contributions := by
  unfold State.endAsks
  exact State.contributions_mapLines _ _ _ (fun _ => rfl)

/-- Beginning asks leaves the contributions. -/
@[simp] theorem State.contributions_beginAsks (s : State) (m : LineMask) :
    (s.beginAsks m).contributions = s.contributions := by
  unfold State.beginAsks
  exact State.contributions_mapLines _ _ _ (fun _ => rfl)

/-- The contributions after some are formed afresh: those of the concerned lines equal their sources, the others stand
(R10, R11, R118, R119); in STOPPED all stand (R117). -/
theorem State.formContributions_contributions (s : State) (m : LineMask) :
    (s.formContributions m).contributions
      = if s.startup.station = .stopped then s.contributions
        else (m &&& s.sources) ||| (~~~m &&& s.contributions) := by
  have key : ∀ c r : LineMask, (c ||| (m &&& r &&& ~~~c)) &&& ~~~(m &&& ~~~r &&& c) = (m &&& r) ||| (~~~m &&& c) := by
    intro c r
    apply LineMask.ext_fin
    intro n
    have hn := n.isLt
    simp only [BitVec.getLsbD_or, BitVec.getLsbD_and, BitVec.getLsbD_not, hn, decide_true, Bool.true_and]
    cases m.getLsbD n.val <;> cases c.getLsbD n.val <;> cases r.getLsbD n.val <;> rfl
  unfold State.formContributions
  dsimp only
  split_ifs
  · rfl
  · simp only [State.contributionsFall, State.contributionsRise, State.contributions_merge,
      State.contributions_unmerge, State.contributions_endAsks, State.contributions_beginAsks, State.contributions_write, Bool.false_eq_true, if_false, if_true]
    exact key _ _
  · simp only [State.contributions_write, Bool.false_eq_true, if_false, if_true]
    exact key _ _

/-- What the rejection of a frame leaves unchanged: all but the receiver state, the idle count and the three receive counts
(R139, R145). -/
@[simp] theorem State.rejectFrame_frame (s : State) (v : Verdict) :
    (s.rejectFrame v).now = s.now
      ∧ (s.rejectFrame v).pins = s.pins
      ∧ (s.rejectFrame v).startup = s.startup
      ∧ (s.rejectFrame v).travel = s.travel
      ∧ (s.rejectFrame v).sensing = s.sensing
      ∧ (s.rejectFrame v).zone = s.zone
      ∧ (s.rejectFrame v).handoff = s.handoff
      ∧ (s.rejectFrame v).slip = s.slip
      ∧ (s.rejectFrame v).entry = s.entry
      ∧ (s.rejectFrame v).lines = s.lines
      ∧ (s.rejectFrame v).strobe = s.strobe
      ∧ (s.rejectFrame v).mill.ownTail = s.mill.ownTail
      ∧ (s.rejectFrame v).mill.sof = s.mill.sof
      ∧ (s.rejectFrame v).mill.queue = s.mill.queue
      ∧ (s.rejectFrame v).mill.slots = s.mill.slots
      ∧ (s.rejectFrame v).mill.flight = s.mill.flight
      ∧ (s.rejectFrame v).mill.txErrors = s.mill.txErrors
      ∧ (s.rejectFrame v).mill.txOverflows = s.mill.txOverflows
      ∧ (s.rejectFrame v).port = s.port
      ∧ (s.rejectFrame v).pending = s.pending := by
  cases v <;> simp [State.rejectFrame]

end Sys2Proof.Machine
end

