-- ==== Sys2Proof/Tests/Slice0.lean ====
section
/-!
SUPPORT. The model's own tests: ill-formed commands refused, the worked figures of the spec, one small step for each
command, and a witness for the hypotheses of each statement of Certificates/Slice0/Obligations.lean.
-/

open Sys2Proof Sys2Proof.Machine

namespace Sys2Proof.Tests

/-! ### Small states -/

/-- A station at its reset values but for station state, position, straps and CHAIN-OUT, with the detectors in use armed in
TRACKING. -/
def station (st : StationState) (position : Nat) (first last : Bool) : State :=
  { State.reset with
    startup :=
      { State.reset.startup with
        station := st, position := position, chainOut := st.operating
        straps := { first := first, last := last, rate1 := false, rate0 := false } }
    sensing :=
      { State.reset.sensing with
        load := if st = .tracking then .armedLow else .dormant
        exit := if st = .tracking ∧ last = true then .armedLow else .dormant } }

/-- Station 2 of three, in TRACKING. -/
def mid : State := station .tracking 2 false false

/-- The entry station, in TRACKING. -/
def entryStation : State := station .tracking 1 true false

/-- The exit station, in TRACKING. -/
def exitStation : State := station .tracking 3 false true

/-- Station 2 of three, in PLACED. -/
def placed : State := station .placed 2 false false

/-- A record at a position in tu while Z is 0: TRAVELLING, of origin BITE, learnable when a HEAD. -/
def record (kind : FeatureKind) (serial : Serial) (position : Nat) : FeatureRecord where
  serial := serial
  kind := kind
  tag := none
  anon := 0#8
  entryW := 0#48
  entryZ := 0#48 - BitVec.ofNat 48 position
  origin := .bite
  state := .travelling
  learnable := kind == .head

/-- A state with a zone queue. -/
def withZone (s : State) (queue : List FeatureRecord) : State := { s with zone := { s.zone with queue := queue } }

/-- A state whose receiver is reading a frame of another station. -/
def reading (s : State) : State := { s with mill := { s.mill with rx := .receiving } }

/-- A state whose receiver is READY. -/
def idle (s : State) : State := { s with mill := { s.mill with rx := .ready, idle := 11 } }

/-- A state with an attempt under way. -/
def flying (s : State) (source : FlightSource) (wire : List Bool) : State :=
  { s with mill := { s.mill with rx := .receiving, flight := some { source := source, wire := wire } } }

/-- A state with frames in its places. -/
def withPlaces (s : State) (queue : List QueuedFrame) : State := { s with mill := { s.mill with queue := queue } }

/-- The urgent arbitration field of a position 1 to 8. -/
def from1 : Arbitration := { routine := false, station := 0 }
def from2 : Arbitration := { routine := false, station := 1 }
def from3 : Arbitration := { routine := false, station := 2 }
def from8 : Arbitration := { routine := false, station := 7 }

/-- The next state of a command, and the state itself where it has none. -/
def after (c : Instr) (s : State) : State :=
  match exec c s with
  | .next t => t
  | .fault _ => s
  | .refused _ => s

/-- The command answers a next state. -/
def runs (c : Instr) (s : State) : Bool :=
  match exec c s with
  | .next _ => true
  | .fault _ => false
  | .refused _ => false

/-! ### Ill-formed commands -/

/-- The line bits of a valid RAISE spell no invalid frame. -/
theorem test_wellFormed_refuses_valid_frame : (Instr.frameInvalid 0 (frameBits [0x08#8, 0x08#8])).wellFormed = false := by
  decide +kernel

/-- Code 5 names READY. -/
theorem test_wellFormed_refuses_known_code : (Instr.unknownCommand 0 5#8).wellFormed = false := by decide

/-- A sound block and a null block fail no check. -/
theorem test_wellFormed_refuses_sound_block :
    (Instr.blockCheckFailed 0 [3#8, 7#8, 246#8]).wellFormed = false ∧ (Instr.blockCheckFailed 0 [0#8]).wellFormed = false := by
  decide

/-- A frame cut by an eighth dominant bit, an unknown code and a block of two bytes are what their commands say. -/
theorem test_wellFormed_accepts :
    (Instr.frameInvalid 0 (List.replicate 7 false)).wellFormed = true
      ∧ (Instr.unknownCommand 0 21#8).wellFormed = true ∧ (Instr.blockCheckFailed 0 [2#8, 254#8]).wellFormed = true := by
  decide

/-! ### The worked figures of chapter 2 -/

/-- Section 2.9.1: four pulses of p = 1,256,632 at S = 3,301. -/
theorem test_advance_per_pulse :
    pulseProduct 1256632 3301 0 = 86502776984 ∧ 86502776984 / 65536 = 1319927 ∧ 86502776984 % 65536 = 41112
      ∧ pulseProduct 1256632 3301 41112 / 65536 = 1319928 ∧ pulseProduct 1256632 3301 41112 % 65536 = 16688
      ∧ pulseProduct 1256632 3301 16688 / 65536 = 1319927 ∧ pulseProduct 1256632 3301 16688 % 65536 = 57800
      ∧ pulseProduct 1256632 3301 57800 / 65536 = 1319928 ∧ pulseProduct 1256632 3301 57800 % 65536 = 33376 := by
  decide

/-- The latch of section 2.9.2. -/
def takeLatch : SofLatch := { w := 7634737888#48, z := 0#48, tp := 600, aLast := 1317991, time := 0 }

/-- Section 2.9.2: back-projection of a TAKE. -/
theorem test_back_projection_of_a_take :
    rollBack takeLatch 1256632 2400 = 5026528 ∧ eventW takeLatch 1256632 2400 = 7629711360#48
      ∧ stripBack takeLatch 2400 = 5271964 ∧ latenessMm takeLatch 2400 = 5 := by
  decide

/-- The latch of section 2.9.3. -/
def passLatch : SofLatch := { w := 8573000000#48, z := 9000000000#48, tp := 540, aLast := 1317991, time := 0 }

/-- Section 2.9.3: back-projection of a PASS. -/
theorem test_back_projection_of_a_pass :
    rollBack passLatch 1256632 1350 = 3141580 ∧ stripBack passLatch 1350 = 3294977
      ∧ eventW passLatch 1256632 1350 = 8569858420#48 ∧ eventZ passLatch 1350 = 8996705023#48
      ∧ latenessMm passLatch 1350 = 3 := by
  decide

/-- Section 2.9.3: with T_p stalled nothing is projected back. -/
theorem test_back_projection_stalled :
    stripBack { passLatch with tp := 65535 } 1350 = 0 ∧ eventZ { passLatch with tp := 65535 } 1350 = 9000000000#48 := by
  decide

/-- Section 2.9.4: strip speed. -/
theorem test_strip_speed :
    State.stripSpeed { mid with travel := { mid.travel with aLast := 1319928, tp := 60 } } = 21483
      ∧ State.stripSpeed { mid with travel := { mid.travel with aLast := 1317991, tp := 600 } } = 2145
      ∧ State.stripSpeed { mid with travel := { mid.travel with aLast := 1317991, tp := 65535 } } = 0 := by
  decide

/-- Section 2.9.5: a position across the wrap. -/
theorem test_position_across_the_wrap :
    ({ record .head 1#16 0 with entryZ := 281474975710656#48 } : FeatureRecord).position 3000000#48 = 4000000
      ∧ toMm 4000000 = 3 := by
  decide

/-- Section 2.5: the thresholds of the default zone and of a zone of 5,800 mm. -/
theorem test_thresholds :
    Configuration.default.thresholds = { endOfZone := 5632000000, late := 6041600000, early := 5017600000 }
      ∧ ({ Configuration.default with zoneLength := 5800 } : Configuration).thresholds
        = { endOfZone := 5939200000, late := 6348800000, early := 5324800000 } := by
  decide

/-! ### The worked figures of chapter 6 -/

/-- A learner at a slip code with nothing counted. -/
def learner (code : Nat) : SlipLearner := { code := code, samples := 0#16, rejected := 0#16, last := none }

/-- Section 6.7: the sample of serial 41. -/
theorem test_slip_sample :
    (learner 3200).sample 5800 4 .take 41#16 5629711360
      = { code := 3301, samples := 1#16, rejected := 0#16
          last := some { source := .take, serial := 41#16, rollTravel := 5497, measured := some 3603,
                         outcome := .accepted, step := 101, codeAfter := 3301 } } := by
  decide

/-- Section 6.7.2: a sample clamped at zero. -/
theorem test_slip_sample_clamped :
    measuredSlip 5800 6031833600 = -1006 ∧ ((learner 3301).sample 5800 4 .take 42#16 6031833600).code = 2476
      ∧ ((learner 3301).sample 5800 4 .take 42#16 6031833600).last.map Sample.outcome = some .clamped := by
  decide

/-- Section 6.7.3: a crossing of 3,000 pulses measures 37,711 and is rejected. -/
theorem test_slip_sample_rejected :
    measuredSlip 5800 3769896000 = 37711 ∧ ((learner 3301).sample 5800 4 .take 42#16 3769896000).code = 3301
      ∧ ((learner 3301).sample 5800 4 .take 42#16 3769896000).rejected = 1#16 := by
  decide

/-- R100's table of rounding at a gain of 4. -/
theorem test_filter_rounding :
    filterStep 403 4 = 101 ∧ filterStep 302 4 = 76 ∧ filterStep 2 4 = 1 ∧ filterStep 1 4 = 0 ∧ filterStep (-2) 4 = -1
      ∧ filterStep (-6) 4 = -2 ∧ filterStep (-3301) 4 = -825 := by
  decide

/-! ### Codes on the line and at the port -/

/-- The bits of the digits 1 to 9 give the well-known check value of the CRC of R137. -/
theorem test_crc_check_value :
    crcOf (bytesBits [0x31#8, 0x32#8, 0x33#8, 0x34#8, 0x35#8, 0x36#8, 0x37#8, 0x38#8, 0x39#8]) = 0x29B1#16 := by
  decide +kernel

/-- R134: five recessive bits are followed by a dominant one and seven dominant bits by a recessive one, which start runs. -/
theorem test_stuffing :
    stuffFrom true 0 (List.replicate 6 true) = List.replicate 5 true ++ [false, true]
      ∧ stuffFrom true 0 (List.replicate 8 false) = List.replicate 7 false ++ [true, false] := by
  decide

/-- Section 9.2: header bytes, class bit first, then position − 1, then the kind code. -/
theorem test_header_byte :
    from3.header 3 = 0x23#8 ∧ ({ routine := true, station := 7 } : Arbitration).header 7 = 0xF7#8 := by decide

/-- A TAKE of HEAD 41 from position 3 with age 2,400, as it travels on the line (sections 9.2 and 9.6.1). -/
theorem test_take_on_the_line :
    lineCommand 5 (frameBits [0x23#8, 0x00#8, 0x29#8, 0x01#8, 0x00#8, 0x09#8, 0x60#8])
      = some (.takeReceived 5 from3 41#16 1#8 0#8 2400#16) := by
  decide +kernel

/-- A PACE from position 3 with code 0, counter 1 and last take HEAD 43 (section 9.6.1). -/
theorem test_pace_on_the_line :
    lineCommand 5 (frameBits [0xA7#8, 0x41#8, 0x00#8, 0x2B#8, 0x01#8])
      = some (.paceReceived 5 { routine := true, station := 2 } 0x41#8 43#16 1#8) := by
  decide +kernel

/-- ANNOUNCE of bar 42, tag 13, joined: length 7, code 3 (section 9.6.2, R158). -/
theorem test_announce_at_the_port :
    portCommand 5 [7#8, 3#8, 0#8, 42#8, 13#8, 1#8, 190#8] = .announce 5 [0#8, 42#8, 13#8, 1#8] := by decide

/-- The response after hardware reset is the answer DONE to command code 0, length 4 (R156). -/
theorem test_reset_response : State.reset.port.held = [4#8, 0#8, 0#8, 252#8] := by decide

/-- The opcode table gives its rows no bits. -/
theorem test_table_word : decodeTableWord 0 0 = none := by decide

/-! ### One step of each command -/

/-- R146: a station strapped FIRST enters CLAIMING at position 1 with its CLAIM queued. -/
theorem test_hardwareReset :
    let t := after (.hardwareReset { first := true, last := false, rate1 := false, rate0 := true } true) mid
    t.startup.station = .claiming ∧ t.startup.position = 1 ∧ t.mill.queue.map (·.body) = [.claim 1 true false]
      ∧ t.pins.chainIn = true ∧ t.travel.tp = 65535 := by
  decide

/-- Section 12.3, step 3, with the default zone: the pulse that carries a head to 5,632,000,000 tu makes it DUE. -/
theorem test_encoderPulse :
    let s := withZone { mid with slip := { mid.slip with code := 0 } } [record .head 43#16 (5632000000 - 1024000)]
    (after (.encoderPulse 600) s).zone.queue.map (·.state) = [.due] ∧ (after (.encoderPulse 600) s).travel.w = 1024000#48 := by
  decide

/-- R22: outside TRACKING no pulse is counted. -/
theorem test_encoderPulse_placed : (after (.encoderPulse 600) placed).travel = placed.travel := by decide

/-- R26: T_p becomes 65,535 at the 65,535th µs and the timer stops. -/
theorem test_stallExpiry :
    let s := { mid with travel := { mid.travel with tp := 600, stallRunning := true, lastPulse := 1000 } }
    (after .stallExpiry s).travel.tp = 65535 ∧ (after .stallExpiry s).travel.stallRunning = false
      ∧ (after .stallExpiry s).now = 66535 := by
  decide

/-- R39: a rise of LOAD in ARMED_LOW latches the travel and the time of the edge. -/
theorem test_loadEdge :
    (after (.loadEdge 7 true) { mid with travel := { mid.travel with w := 5#48, z := 6#48 } }).sensing.load
      = .qualRise { w := 5#48, z := 6#48, time := 7 } := by
  decide

/-- R40: LOAD falls before the qualify time: the attempt is abandoned and counted. -/
theorem test_loadEdge_abandons :
    let t := after (.loadEdge 1 false) (after (.loadEdge 7 true) mid)
    t.sensing.load = .armedLow ∧ t.sensing.qualifyFail = 1#16 := by
  decide

/-- R41: LOAD high for 5,000 µs with a qualify time of 2,000 has delivered its bite when it falls (log entry 2). -/
theorem test_loadEdge_held_longer :
    let t := after (.loadEdge 5000 false) (after (.loadEdge 7 true) mid)
    t.sensing.load = .qualFall { w := 0#48, z := 0#48, time := 5007 } ∧ t.sensing.qualifyFail = 0#16 ∧ t.now = 5007
      ∧ t.port.actions.map (·.kind) = [.bite] := by
  decide

/-- R42: a fall of EXIT ends WAIT_LOW without an event. -/
theorem test_exitEdge :
    let s := { exitStation with sensing := { exitStation.sensing with exit := .waitLow }
                                pins := { exitStation.pins with exit := true } }
    (after (.exitEdge 3 false) s).sensing.exit = .armedLow ∧ (after (.exitEdge 3 false) s).port.actions = [] := by
  decide

/-- Station 2 of section 4.8 before step 4: HEAD 41/12 and TAIL 41 are expected and tag 12 is ready. -/
def beforeBite : State :=
  { mid with
    handoff :=
      { mid.handoff with
        expectations := [{ serial := 41#16, kind := .head, tag := some 12 }, { serial := 41#16, kind := .tail, tag := none }] }
    port := { mid.port with ready := [12] }
    sensing := { mid.sensing with load := .qualRise { w := 0#48, z := 0#48, time := 0 } } }

/-- Section 4.8, step 4: what the qualified bite leaves. -/
theorem test_qualificationExpiry :
    let t := after (.qualificationExpiry .load) beforeBite
    t.handoff.expectations = [{ serial := 41#16, kind := .tail, tag := none }] ∧ t.port.ready = []
      ∧ t.mill.queue.map (·.body) = [.offer 41#16 .head (some 12), .take 41#16 .head 0#8]
      ∧ t.port.actions = [{ kind := .bite, serial := 41#16, feature := 1#8, tag := 12#8, ready := .yes }]
      ∧ t.handoff.lastTake = some { serial := 41#16, kind := .head } := by
  decide

/-- Section 4.8, step 9: a bite that nobody offered is anonymous. -/
theorem test_qualificationExpiry_anonymous :
    let t := after (.qualificationExpiry .load)
      { mid with sensing := { mid.sensing with load := .qualRise { w := 0#48, z := 0#48, time := 0 } } }
    t.mill.queue.map (·.body) = [.offer 0#16 .head none, .take 0#16 .head 1#8]
      ∧ t.port.actions = [{ kind := .bite, serial := 0#16, feature := 1#8, tag := 255#8, value := 1#16 }] := by
  decide

/-- Station 1 of section 7.8 before step 3. -/
def beforeJoin : State :=
  { entryStation with
    entry := { bars := [{ serial := 42#16, tag := some 13, joined := true }, { serial := 43#16, tag := some 14, joined := true }] }
    port := { entryStation.port with ready := [13] } }

/-- Section 7.8, step 3: what the join strobe leaves. -/
theorem test_joinStrobe :
    let t := after (.joinStrobe 4) beforeJoin
    t.entry.bars.map (·.serial) = [43#16] ∧ t.zone.queue.map (fun r => (r.kind, r.serial, r.tag)) = [(.join, 42#16, some 13)]
      ∧ t.mill.queue.map (·.body) = [.offer 42#16 .join (some 13)]
      ∧ t.port.actions = [{ kind := .switch, serial := 42#16, feature := 3#8, tag := 13#8, ready := .yes }]
      ∧ t.strobe = some 104 := by
  decide

/-- Section 4.8, step 7: the countdown ends with LOAD low. -/
theorem test_biteInhibitExpiry :
    let s := { mid with sensing := { mid.sensing with inhibit := some 300000, load := .armedHigh } }
    let t := after .biteInhibitExpiry s
    t.now = 300000 ∧ t.sensing.load = .armedLow ∧ t.sensing.inhibit = none ∧ t.port.actions = [] := by
  decide

/-- R132: the width ends after the latest start. -/
theorem test_strobeEnd :
    (after .strobeEnd { mid with strobe := some 104 }).strobe = none ∧ (after .strobeEnd { mid with strobe := some 104 }).now = 104 := by
  decide

/-- R119, R121: an active input contributes to its lines, and a line with a low copy is raised. -/
theorem test_siginChange :
    let s := { mid with startup := { mid.startup with config := { mid.startup.config with sigin1 := ⟨8#8, false⟩ } } }
    let t := after (.siginChange 2 .sigin1 true) s
    t.contributions = 8#8 ∧ t.mill.slots.raise = { mask := 8#8, filledAt := 2 } := by
  decide

/-- R147: a rise of CHAIN-IN is only recorded. -/
theorem test_chainInRise :
    let t := after (.chainInRise { dt := 2, level := true }) State.reset
    t.pins.chainIn = true ∧ t.startup.station = .unset := by
  decide

/-- R147: a CLAIM heard after CHAIN-IN has fallen again makes no choice (log entry 26). -/
theorem test_chainInRise_fall :
    let t := after (.claimReceived 3 from1 1#8 1#8)
      (after (.chainInRise { dt := 2, level := false }) (reading { State.reset with pins := { State.reset.pins with chainIn := true } }))
    t.startup.station = .unset ∧ t.startup.position = 0
      ∧ t.startup.lastClaim = some { position := 1, first := true, last := false } := by
  decide

/-- R33: a start of frame latches the travel of its moment. -/
theorem test_startOfFrame :
    let t := after (.startOfFrame 9) (idle { mid with travel := { mid.travel with w := 5#48, z := 6#48, tp := 600, aLast := 7 } })
    t.mill.sof = { w := 5#48, z := 6#48, tp := 600, aLast := 7, time := 9 } ∧ t.mill.rx = .receiving := by
  decide

/-- R142: a filled slot goes before an urgent frame, and its mask is taken out. -/
theorem test_attempt :
    let s := (withPlaces (idle mid) [{ body := .take 41#16 .head 0#8, age := some { base := 0, since := 0 }, flying := false }]).merge
      .ask 2#8
    let t := after (.attempt 5) s
    t.mill.flight.map (·.source) = some (.slot .ask 2#8 0) ∧ t.mill.slots.ask = Slot.empty ∧ t.mill.queue.length = 1 := by
  decide

/-- R142, R32: an urgent frame goes before a routine one, with its age of this moment. -/
theorem test_attempt_stamps_the_age :
    let s := withPlaces (idle mid)
      [{ body := .offer 41#16 .head none, age := none, flying := false },
       { body := .take 41#16 .head 0#8, age := some { base := 0, since := 0 }, flying := false }]
    (after (.attempt 2400) s).mill.flight.map (·.wire)
      = some (frameLine [0x13#8, 0x00#8, 0x29#8, 0x01#8, 0x00#8, 0x09#8, 0x60#8]) := by
  decide +kernel

/-- Section 8.6, step 2 at station 1: its RAISE is sent and the copy goes high. -/
theorem test_frameSent :
    let s := flying { mid with lines := { mid.lines with signals := 8#8 } } (.slot .raise 8#8 0) [false, true]
    let t := after (.frameSent 50) (s.mapLines 8#8 (TrainLine.withContribution true))
    t.copies = 8#8 ∧ t.mill.slots.ask = Slot.empty ∧ t.mill.flight = none := by
  decide

/-- R138: the bits of an own frame behind its last CRC bit are read as its end, and no other frame is read in them. -/
theorem test_frameSent_then_end :
    let t := after (.frameSent 50) (flying mid (.slot .raise 8#8 0) [false, true])
    t.mill.rx = .receiving ∧ t.reading = false ∧ (after (.lineIdle 52) t).mill.rx = .ready := by
  decide

/-- R144: a frame that loses arbitration keeps its place. -/
theorem test_arbitrationLost :
    let f : QueuedFrame := { body := .take 41#16 .head 0#8, age := some { base := 0, since := 0 }, flying := true }
    let t := after (.arbitrationLost 2) (withPlaces (flying mid (.place f.body) [false, false, false, false, true]) [f])
    t.mill.queue = [{ f with flying := false }] ∧ t.mill.flight = none ∧ t.mill.txErrors = 0#16 := by
  decide

/-- R144, R145: a bit error discards the frame and is counted. -/
theorem test_bitError :
    let f : QueuedFrame := { body := .take 41#16 .head 0#8, age := some { base := 0, since := 0 }, flying := true }
    let t := after (.bitError 2 0) (withPlaces (flying mid (.place f.body) [false, false, false, false, true]) [f])
    t.mill.queue = [] ∧ t.mill.txErrors = 1#16 ∧ t.mill.rx = .hunt := by
  decide

/-- R135: a start of frame read back recessive is one more recessive bit of an idle line. -/
theorem test_bitError_start_of_frame :
    (after (.bitError 2 0) (flying mid (.slot .raise 8#8 0) [false, true])).mill.idle = 11 := by decide

/-- R139: an eighth dominant bit of a run is a receive error. -/
theorem test_frameInvalid :
    let t := after (.frameInvalid 8 (List.replicate 7 false)) (reading mid)
    t.mill.rxErrors = 1#16 ∧ t.mill.rx = .hunt := by
  decide

/-- R139: the same bits behind the last CRC bit of an own frame raise no count, and the receiver still reads its end. -/
theorem test_frameInvalid_own_end :
    let t := after (.frameInvalid 8 (List.replicate 7 false)) (after (.frameSent 50) (flying mid (.slot .raise 8#8 0) [false, true]))
    t.mill.rxErrors = 0#16 ∧ t.mill.rx = .receiving ∧ t.mill.ownTail = true := by
  decide

/-- R147: with CHAIN-IN high a CLAIM of position 1 makes this station claim position 2. -/
theorem test_claimReceived :
    let t := after (.claimReceived 3 from1 1#8 1#8) (reading { State.reset with pins := { State.reset.pins with chainIn := true } })
    t.startup.station = .claiming ∧ t.startup.position = 2 ∧ t.mill.queue.map (·.body) = [.claim 2 false false] := by
  decide

/-- R147: after a CLAIM of position 8 there is no place left. -/
theorem test_claimReceived_ninth :
    let t := after (.claimReceived 3 from8 8#8 0#8) (reading { State.reset with pins := { State.reset.pins with chainIn := true } })
    t.startup.station = .stopped ∧ t.port.actions = [{ kind := .fault, feature := 9#8, value := 6#16 }] := by
  decide

/-- Section 4.8, step 1. -/
theorem test_offerReceived :
    let t := after (.offerReceived 3 from1 41#16 1#8 12#8) (reading mid)
    t.handoff.expectations = [{ serial := 41#16, kind := .head, tag := some 12 }]
      ∧ t.port.actions = [{ kind := .prepare, serial := 41#16, feature := 1#8, tag := 12#8 }] := by
  decide

/-- Section 4.8, step 3: an OFFER from station 3 is ignored. -/
theorem test_offerReceived_wrong_position :
    let t := after (.offerReceived 3 from3 50#16 1#8 255#8) (reading mid)
    t.handoff.expectations = [] ∧ t.port.actions = [] ∧ t.handoff.discarded = 0#16 := by
  decide

/-- Section 6.7: the TAKE of serial 41 measures 3,603 and moves S to 3,301. -/
theorem test_takeReceived :
    let r := { record .head 41#16 5938000000 with entryW := 2000000000#48, state := .due }
    let s := withZone (reading mid) [r]
    let s := { s with startup := { s.startup with config := { s.startup.config with zoneLength := 5800, pitch := 1256632 } } }
    let s := { s with slip := { s.slip with code := 3200 }, mill := { s.mill with sof := takeLatch } }
    let t := after (.takeReceived 60 from3 41#16 1#8 0#8 2400#16) s
    t.zone.queue = [] ∧ t.slip.code = 3301 ∧ t.port.actions.map (fun a => (a.kind, a.serial, a.cls)) = [(.handed, 41#16, 0#2)] := by
  decide

/-- R73: a TAKE that finds nothing is counted. -/
theorem test_takeReceived_unmatched :
    (after (.takeReceived 60 from3 41#16 1#8 0#8 2400#16) (reading mid)).handoff.unmatched = 1#16 := by
  decide

/-- Section 2.9.3: JOIN 42 enters with the projected values and SWITCH carries lateness 3. -/
theorem test_passReceived :
    let s := { reading mid with startup := { mid.startup with config := { mid.startup.config with pitch := 1256632 } } }
    let s := { s with mill := { s.mill with sof := passLatch }, travel := { s.travel with z := 9001317991#48 } }
    let t := after (.passReceived 60 from1 42#16 13#8 0#8 1350#16) s
    t.zone.queue.map (fun r => (r.entryW, r.entryZ, r.position t.travel.z)) = [(8569858420#48, 8996705023#48, 4612968)]
      ∧ t.port.actions.map (fun a => (a.kind, a.ready, a.value)) = [(.switch, .no, 3#16)] := by
  decide

/-- R88: a LAPSE enters an unknown join as estimated. -/
theorem test_lapseReceived :
    let t := after (.lapseReceived 60 from1 42#16 13#8 0#8 400#16 100#16) (reading mid)
    t.zone.queue.map (·.origin) = [.lapsed] ∧ t.port.actions.map (fun a => (a.estimated, a.value)) = [(true, 400#16)] := by
  decide

/-- R88: a LAPSE of the last take is ignored. -/
theorem test_lapseReceived_known :
    let s := { reading mid with handoff := { mid.handoff with lastTake := some { serial := 42#16, kind := .join } } }
    (after (.lapseReceived 60 from1 42#16 13#8 0#8 400#16 100#16) s).zone.queue = [] := by
  decide

/-- Section 4.8, step 10. -/
theorem test_bindReceived :
    let t := after (.bindReceived 60 from1 43#16 1#8 14#8 1#8) (withZone (reading mid) [{ record .head 0#16 0 with anon := 1#8 }])
    t.zone.queue.map (fun r => (r.serial, r.tag, r.anon)) = [(43#16, some 14, 0#8)]
      ∧ t.port.actions = [{ kind := .bound, serial := 43#16, feature := 1#8, tag := 14#8, value := 1#16 }] := by
  decide

/-- Section 12.3, step 5: a report removes HEAD 43 at 5,837 mm as HANDED REPORTED. -/
theorem test_paceReceived :
    let s := withZone (reading mid) [{ record .head 43#16 (5837 * 1024000) with tag := some 14, state := .due }]
    let s := { s with handoff := { s.handoff with down := { s.handoff.down with liveness := .present, counter := some 0#2 } } }
    let t := after (.paceReceived 60 from3 0x41#8 43#16 1#8) s
    t.zone.queue = [] ∧ t.handoff.down.counter = some 1#2 ∧ t.handoff.down.gaps = 0#8
      ∧ t.port.actions
        = [{ kind := .handed, serial := 43#16, feature := 1#8, tag := 14#8, cls := 3#2, value := 5837#16 }] := by
  decide

/-- Section 12.4, step 3 at station 1 (here at station 3): TRIP_ON carries the sender's position. -/
theorem test_raiseReceived :
    let t := after (.raiseReceived 60 from2 1#8) (reading exitStation)
    t.copies = 1#8 ∧ t.port.actions = [{ kind := .tripOn, value := 2#16 }] := by
  decide

/-- Section 8.6, step 6 at station 1: a VETO ends the ask and its window. -/
theorem test_vetoReceived :
    let s := (reading entryStation).mapLines 8#8 (fun l => { l with copy := true, ask := .window, windowEnd := some 500 })
    let t := after (.vetoReceived 60 from3 8#8) s
    t.copies = 8#8 ∧ t.askPhase .none = 255#8 ∧ (t.lines.line.get 3).windowEnd = none := by
  decide

/-- Section 8.6, step 5 at station 3: an ASK of a line that this station holds is vetoed. -/
theorem test_askReceived :
    let s := (reading exitStation).mapLines 8#8 (fun l => { l with copy := true, contribution := true })
    let t := after (.askReceived 60 from1 8#8) s
    t.foreignAsks = 8#8 ∧ t.mill.slots.veto = { mask := 8#8, filledAt := 60 } := by
  decide

/-- Section 8.6: a DROP of a line that this station holds lowers its copy and makes it merge a RAISE. -/
theorem test_dropReceived :
    let s := (reading exitStation).mapLines 8#8 (fun l => { l with copy := true, contribution := true })
    let t := after (.dropReceived 60 from1 8#8) s
    t.copies = 0#8 ∧ t.mill.slots.raise = { mask := 8#8, filledAt := 60 } := by
  decide

/-- R78, R79: the PACE carries the counter, which then advances, and the timer runs on from its expiry. -/
theorem test_paceTimerExpiry :
    let t := after .paceTimerExpiry { mid with handoff := { mid.handoff with paceTimer := some 20000, paceCounter := 3#2 } }
    t.mill.queue.map (·.body) = [.pace 2 0 3#2 none] ∧ t.handoff.paceCounter = 0#2 ∧ t.handoff.paceTimer = some 40000 := by
  decide

/-- R80: the upstream neighbour goes silent. -/
theorem test_silenceTimerExpiry :
    let t := after (.silenceTimerExpiry .upstream) { mid with handoff := { mid.handoff with up := { mid.handoff.up with silence := some 80000 } } }
    t.handoff.up.liveness = .silent ∧ t.port.actions = [{ kind := .neighbour, value := 1#16 }] := by
  decide

/-- R151: with the downstream neighbour silent the claim repeat starts again. -/
theorem test_silenceTimerExpiry_downstream :
    (after (.silenceTimerExpiry .downstream)
      { mid with handoff := { mid.handoff with down := { mid.handoff.down with silence := some 80000 } } }).startup.claimRepeat
      = some 90000 := by
  decide

/-- R150. -/
theorem test_claimRepeatExpiry :
    let t := after .claimRepeatExpiry { placed with startup := { placed.startup with claimRepeat := some 10000 } }
    t.mill.queue.map (·.body) = [.claim 2 false false] ∧ t.startup.claimRepeat = some 20000 := by
  decide

/-- Section 8.6, step 9. -/
theorem test_vetoWindowExpiry :
    let s := mid.mapLines 8#8 (fun l => { l with copy := true, ask := .window, windowEnd := some 500 })
    let t := after (.vetoWindowExpiry 3) s
    t.askPhase .dropping = 8#8 ∧ t.mill.slots.drop = { mask := 8#8, filledAt := 500 } := by
  decide

/-- R156: a null block leaves the held response. -/
theorem test_nullBlock : (after (.nullBlock 4) mid).port.held = mid.port.held := by decide

/-- R157: code 21 names no command; UNKNOWN is 8. -/
theorem test_unknownCommand : (after (.unknownCommand 4 21#8) mid).port.held = [4#8, 21#8, 8#8, 223#8] := by decide

/-- R153: a late margin of 5,000 mm is clamped to half of 5,500 mm. -/
theorem test_configure :
    let t := after (.configure 4 [6#8, 0#8, 0#8, 0x13#8, 0x88#8]) placed
    t.startup.config.lateMargin = 2750 ∧ t.port.held = [4#8, 1#8, 1#8, 250#8] := by
  decide

/-- R155, R38: CLOSE with strip in the bite. -/
theorem test_close :
    let t := after (.close 4 []) { placed with pins := { placed.pins with load := true } }
    t.startup.station = .tracking ∧ t.sensing.load = .waitLow ∧ t.port.actions = [{ kind := .fault, value := 7#16 }]
      ∧ t.port.held = [4#8, 2#8, 0#8, 250#8] := by
  decide

/-- Section 7.8, step 4. -/
theorem test_announce :
    (after (.announce 4 [0#8, 44#8, 15#8, 0#8]) entryStation).entry.bars = [{ serial := 44#16, tag := some 15, joined := false }] := by
  decide

/-- R106: the others keep their order. -/
theorem test_withdraw : (after (.withdraw 4 [0#8, 42#8]) beforeJoin).entry.bars.map (·.serial) = [43#16] := by decide

/-- R57: a tag goes in as youngest. -/
theorem test_ready : (after (.ready 4 [13#8]) beforeBite).port.ready = [12, 13] := by decide

/-- R58: a tag that is not there is NOT_FOUND, code 5. -/
theorem test_unready :
    (after (.unready 4 [12#8]) beforeBite).port.ready = [] ∧ (after (.unready 4 [13#8]) beforeBite).port.held = [4#8, 6#8, 5#8, 241#8] := by
  decide

/-- R118, R121: TRIP raises TL0. -/
theorem test_trip : (after (.trip 4 []) mid).mill.slots.raise.mask = 1#8 := by decide

/-- Section 12.4, step 11: CLEAR TRIP with a high copy is asked about. -/
theorem test_clearTrip :
    let s := { mid with lines := { mid.lines with hostTrip := true } }
    let s := s.mapLines 1#8 (fun l => { l with copy := true, contribution := true })
    (after (.clearTrip 4 []) s).mill.slots.ask.mask = 1#8 := by
  decide

/-- Section 8.6, step 1; bits of TL0 and TL1 are ignored. -/
theorem test_signal :
    (after (.signal 4 [0x0B#8, 0#8]) mid).lines.signals = 8#8 ∧ (after (.signal 4 [0x0B#8, 0#8]) mid).mill.slots.raise.mask = 8#8 := by
  decide

/-- R15: with a record in the zone PARK is answered NOT_CLEAR, code 6. -/
theorem test_park :
    (after (.park 4 []) mid).startup.station = .parked
      ∧ (after (.park 4 []) (withZone mid [record .head 1#16 0])).port.held = [4#8, 10#8, 6#8, 236#8] := by
  decide

/-- R16, R38. -/
theorem test_resume :
    let t := after (.resume 4 []) (station .parked 2 false false)
    t.startup.station = .tracking ∧ t.sensing.load = .armedLow ∧ t.travel.restart = true := by
  decide

/-- R17. -/
theorem test_clearTrack : (after (.clearTrack 4 []) (withZone beforeBite [record .head 1#16 0])).zone.queue = [] := by decide

/-- R46: 3,000 ms is clamped to 2,000 ms. -/
theorem test_inhibit :
    let t := after (.inhibit 4 [0x0B#8, 0xB8#8]) mid
    t.sensing.inhibit = some 2000004 ∧ t.port.held = [4#8, 13#8, 1#8, 238#8] := by
  decide

/-- R102: 16,385 is clamped to 16,384. -/
theorem test_slip : (after (.slip 4 [0x40#8, 0x01#8]) mid).slip.code = 16384 := by decide

/-- R162: ATTN follows the latch while enabled. -/
theorem test_attnEnable : (after (.attnEnable 4 []) { mid with port := { mid.port with attnLatch := true } }).attn = true := by
  decide

/-- R162. -/
theorem test_attnDisable :
    (after (.attnDisable 4 []) { mid with port := { mid.port with attnLatch := true, attnEnable := true } }).attn = false := by
  decide

/-- Section 11.6: of 11 records 8 are read with a response of 70 bytes, and the latch stays set. -/
theorem test_readActions :
    let s := { mid with port := { mid.port with actions := List.replicate 11 { kind := .bite }, attnLatch := true } }
    let t := after (.readActions 4 []) s
    t.port.held.length = 70 ∧ t.port.actions.length = 3 ∧ t.port.attnLatch = true := by
  decide

/-- Section 11.6: a response of 38 bytes carries the last 4, and the latch is cleared. -/
theorem test_readActions_last :
    let s := { mid with port := { mid.port with actions := List.replicate 4 { kind := .bite }, attnLatch := true } }
    let t := after (.readActions 4 []) s
    t.port.held.length = 38 ∧ t.port.actions = [] ∧ t.port.attnLatch = false := by
  decide

/-- R163: an empty zone and an empty expectation list are read as two zeros. -/
theorem test_readZone : (after (.readZone 4 []) mid).port.held = [6#8, 18#8, 0#8, 0#8, 0#8, 232#8] := by decide

/-- R164: 108 bytes of data; byte 0 is the station state, 3 for TRACKING. -/
theorem test_readStation :
    let held := (after (.readStation 4 []) mid).port.held
    held.length = 112 ∧ held.take 5 = [112#8, 19#8, 0#8, 3#8, 2#8] := by
  decide

/-- R159. -/
theorem test_clearCounts :
    (after (.clearCounts 4 []) { mid with mill := { mid.mill with rxErrors := 7#16 } }).mill.rxErrors = 0#16 := by decide

/-- R135: eleven recessive bits make a receiver in HUNT READY. -/
theorem test_lineIdle : (after (.lineIdle 4) mid).mill.rx = .ready ∧ (after (.lineIdle 4) mid).mill.idle = 11 := by decide

/-- R157: a block that does not sum to 0 is answered CHECK_FAILED, code 9. -/
theorem test_blockCheckFailed :
    (after (.blockCheckFailed 4 [3#8, 7#8, 0#8]) mid).port.held = [4#8, 7#8, 9#8, 236#8] := by decide

/-- The command at the front of the queue is carried out, and an empty queue idles (log entry 3). -/
theorem test_step :
    (match step { mid with pending := [.trip 0 [], .nullBlock 0] } with
      | .next t => t.pending == [.nullBlock 0] && t.lines.hostTrip
      | .fault _ => false
      | .refused _ => false) = true := by
  decide

/-- No word of the table puts a command into the queue (log entry 17). -/
theorem test_withFetchWord : State.reset.withFetchWord 8 1 = State.reset := by decide


/-! ### Witnesses: the hypotheses of each statement are met, each clause at the edges of its range -/

/-- A block that fails a check of R157, in the words of the statements. -/
abbrev failsChecks (bytes : List Byte) : Prop :=
  let len := (bytes.headD 0#8).toNat
  len < 3 ∨ bytes.length < len ∨ ((bytes.take len).map BitVec.toNat).sum % 256 ≠ 0

theorem test_witness_StepRunsFront : State.reset.pending = [] := rfl

theorem test_witness_PortJudgesBlocks_null : [0#8, 5#8].head? = some 0#8 := by decide

theorem test_witness_PortJudgesBlocks_failed :
    failsChecks [1#8] ∧ failsChecks [2#8, 254#8] ∧ failsChecks [3#8, 7#8] ∧ failsChecks [3#8, 7#8, 247#8] := by decide

theorem test_witness_PortJudgesBlocks_unknown :
    ¬ failsChecks [3#8, 0#8, 253#8] ∧ ¬ failsChecks [3#8, 21#8, 232#8] ∧ ¬ (1 ≤ (0#8).toNat ∧ (0#8).toNat ≤ 20)
      ∧ ¬ (1 ≤ (21#8).toNat ∧ (21#8).toNat ≤ 20) := by
  decide

theorem test_witness_PortJudgesBlocks_badValue :
    ¬ failsChecks [3#8, 1#8, 252#8] ∧ 3 ≠ parameterBytes 1 + 3 ∧ ¬ failsChecks [4#8, 20#8, 0#8, 232#8]
      ∧ 4 ≠ parameterBytes 20 + 3 := by
  decide

theorem test_witness_PortJudgesBlocks_wrongState :
    ¬ failsChecks [3#8, 2#8, 251#8] ∧ 3 = parameterBytes 2 + 3
      ∧ takenIn 2 mid.startup.station mid.startup.straps.first = false
      ∧ ¬ failsChecks [3#8, 20#8, 233#8] ∧ 3 = parameterBytes 20 + 3 ∧ takenIn 20 .stopped false = false := by
  decide

theorem test_witness_PortCommandsAreChecked :
    failsChecks [1#8, 9#8] ∧ ¬ (1 ≤ (0#8).toNat ∧ (0#8).toNat ≤ 20) ∧ ¬ (1 ≤ (21#8).toNat ∧ (21#8).toNat ≤ 20)
      ∧ ([] : List Byte).length ≠ parameterBytes 1 ∧ [0#8].length ≠ parameterBytes 20
      ∧ [0#8, 0#8, 0#8, 0#8, 0#8].length = parameterBytes 1 ∧ takenIn 1 mid.startup.station false = false
      ∧ ([] : List Byte).length = parameterBytes 20 ∧ takenIn 20 .stopped false = false := by
  decide

theorem test_witness_PortBlockRoundTrip : (List.replicate 252 0#8).length + 3 < 256 := by decide +kernel

/-- The entry station is taken ANNOUNCE and WITHDRAW in TRACKING; station 2 is not. -/
theorem test_witness_WithdrawResult :
    ¬ (mid.startup.straps.first = true ∧ (mid.startup.station = .tracking ∨ mid.startup.station = .parked))
      ∧ beforeJoin.startup.straps.first = true ∧ beforeJoin.startup.station = .tracking
      ∧ (0#8 ++ 0#8 : Serial) = 0#16 ∧ (∀ b ∈ beforeJoin.entry.bars, b.serial ≠ (0#8 ++ 44#8 : Serial))
      ∧ beforeJoin.entry.bars
        = [{ serial := 42#16, tag := some 13, joined := true }] ++ { serial := 43#16, tag := some 14, joined := true } :: []
      ∧ (43#16 : Serial) = 0#8 ++ 43#8 ∧ (beforeJoin.entry.bars.map Bar.serial).Nodup := by
  decide

/-- A station with four ready tags, 0 and 254 among them. -/
def fourReady : State := { mid with port := { mid.port with ready := [0, 12, 254, 13] } }

theorem test_witness_ReadyResult :
    fourReady.startup.station = .tracking ∧ (0#8).toNat = (0 : SetTag).val ∧ (254#8).toNat = (254 : SetTag).val
      ∧ (0 : SetTag) ∈ fourReady.port.ready ∧ (254 : SetTag) ∈ fourReady.port.ready ∧ (14 : SetTag) ∉ fourReady.port.ready
      ∧ 4 ≤ fourReady.port.ready.length ∧ (14 : SetTag) ∉ beforeBite.port.ready ∧ beforeBite.port.ready.length < 4 := by
  decide

theorem test_witness_UnreadyResult :
    ¬ (State.reset.startup.station = .placed ∨ State.reset.startup.station = .tracking ∨ State.reset.startup.station = .parked)
      ∧ fourReady.startup.station = .tracking ∧ (14 : SetTag) ∉ fourReady.port.ready
      ∧ fourReady.port.ready = [0, 12] ++ 254 :: [13] ∧ (254 : SetTag) ∉ [(0 : SetTag), 12] ∧ (254 : SetTag) ∉ [(13 : SetTag)] := by
  decide

theorem test_witness_AttentionCommands : mid.startup.station ≠ .stopped := by decide

/-- A state with `n` actions. -/
def withActions (s : State) (n : Nat) : State :=
  { s with port := { s.port with actions := List.replicate n { kind := .bite }, attnLatch := true } }

theorem test_witness_ReadActionsResult :
    (withActions mid 0).port.actions = [] ++ [] ∧ ([] : List Action).length = min 8 (withActions mid 0).port.actions.length
      ∧ (withActions mid 8).port.actions = List.replicate 8 { kind := .bite } ++ []
      ∧ (withActions mid 9).port.actions = List.replicate 8 { kind := .bite } ++ [{ kind := .bite }]
      ∧ (List.replicate 8 ({ kind := .bite } : Action)).length = min 8 (withActions mid 9).port.actions.length
      ∧ (withActions mid 16).port.actions = List.replicate 8 { kind := .bite } ++ List.replicate 8 { kind := .bite } := by
  decide

/-- R51: of a countdown of 300,000 µs 299 ms remain after 1,500 µs, the last of them begun. -/
theorem test_witness_ReadsOnlyRead :
    let s := { mid with sensing := { mid.sensing with inhibit := some 300000 } }
    ((after (.readStation 1500 []) s).port.held.drop 55).take 3 = [1#8, 1#8, 43#8] := by
  decide +kernel

theorem test_witness_HardwareResetResult :
    ({ first := false, last := true, rate1 := false, rate0 := false } : Straps).first = false
      ∧ ({ first := true, last := true, rate1 := false, rate0 := false } : Straps).first = true := by
  decide

theorem test_witness_PinEvents :
    mid.strobe = none ∧ ({ mid with strobe := some 7 } : State).strobe = some 7 ∧ mid.pins.sigin .sigin0 = false
      ∧ mid.pins.sigin .sigin1 ≠ true := by
  decide

/-- UNSET with CHAIN-IN high, while a frame is being read. -/
def choosing : State := reading { State.reset with pins := { State.reset.pins with chainIn := true } }

/-- The urgent arbitration field of position 7. -/
def from7 : Arbitration := { routine := false, station := 6 }

theorem test_witness_ClaimChoosesPosition :
    choosing.reading = true ∧ choosing.startup.station = .unset ∧ (2#8).toNat ≠ from1.position
      ∧ (1#8).toNat = from1.position ∧ (reading State.reset).pins.chainIn = false ∧ (reading State.reset).reading = true
      ∧ choosing.startup.straps.first = false ∧ choosing.pins.chainIn = true ∧ (7#8).toNat = from7.position
      ∧ from7.position < 8 ∧ choosing.mill.queue = [] ∧ (8#8).toNat = from8.position ∧ from8.position = 8
      ∧ choosing.port.actions.length < 16 := by
  decide

theorem test_witness_ClaimFromSuccessorStopsRepeat :
    (reading mid).reading = true ∧ (reading mid).startup.station.operating = true
      ∧ (reading mid).startup.straps.last = false ∧ from3.position = (reading mid).startup.position + 1
      ∧ (3#8).toNat = from3.position ∧ from8.position = (reading (station .parked 7 false false)).startup.position + 1
      ∧ (8#8).toNat = from8.position ∧ (withActions (reading mid) 15).port.actions.length < 16 := by
  decide

/-- A CLAIM heard in CLAIMING, one whose position field differs, one of a position that is not own+1, and one heard by a station
strapped LAST. -/
theorem test_witness_ClaimFromSuccessorStopsRepeat_others :
    (reading (station .claiming 2 false false)).reading = true
      ∧ (reading (station .claiming 2 false false)).startup.station = .claiming
      ∧ from1.position ≠ (reading mid).startup.position ∧ (2#8).toNat ≠ from1.position ∧ (1#8).toNat = from1.position
      ∧ from1.position ≠ (reading mid).startup.position + 1 ∧ (reading exitStation).startup.station.operating = true
      ∧ from2.position ≠ (reading exitStation).startup.position
      ∧ from2.position ≠ (reading exitStation).startup.position + 1 := by
  decide

/-- A station in CLAIMING whose own CLAIM is in flight. -/
def claimFlying (position : Nat) (last : Bool) : State :=
  flying (station .claiming position false last) (.place (.claim position false last)) [false, true]

theorem test_witness_ClaimSentPlacesStation :
    (claimFlying 2 false).startup.station = .claiming
      ∧ (claimFlying 2 false).mill.flight = some { source := .place (.claim 2 false false), wire := [false, true] }
      ∧ (claimFlying 8 false).mill.flight = some { source := .place (.claim 8 false false), wire := [false, true] }
      ∧ (claimFlying 7 true).mill.flight = some { source := .place (.claim 7 false true), wire := [false, true] } := by
  decide

/-- An OFFER and a CLAIM in a place. -/
def offerPlace : QueuedFrame := { body := .offer 41#16 .head none, age := none, flying := false }
def claimPlace : QueuedFrame := { body := .claim 2 false false, age := none, flying := false }

/-- A TAKE and a PACE in a place. -/
def takePlace : QueuedFrame := { body := .take 41#16 .head 0#8, age := some { base := 0, since := 0 }, flying := false }
def pacePlace : QueuedFrame := { body := .pace 2 0 0#2 none, age := none, flying := false }

/-- A station whose claim repeat timer runs, with frames in its places. -/
def repeating (queue : List QueuedFrame) : State :=
  withPlaces { mid with startup := { mid.startup with claimRepeat := some 10000 } } queue

theorem test_witness_ClaimRepeatResult :
    mid.startup.claimRepeat = none ∧ (repeating []).startup.claimRepeat = some 10000
      ∧ (repeating [claimPlace]).mill.queue.any (fun f => f.body.isClaim) = true
      ∧ (repeating (List.replicate 7 offerPlace)).mill.queue.any (fun f => f.body.isClaim) = false
      ∧ (repeating (List.replicate 7 offerPlace)).mill.queue.length < 8
      ∧ (repeating (List.replicate 8 offerPlace)).mill.queue.any (fun f => f.body.isClaim) = false
      ∧ (repeating (List.replicate 8 offerPlace)).mill.queue.length = 8 := by
  decide

theorem test_witness_ConfigureNumericResult :
    State.reset.startup.station = .unset ∧ (station .claiming 2 false false).startup.station = .claiming
      ∧ placed.startup.station = .placed ∧ 16 < (17#8).toNat ∧ 16 < (255#8).toNat := by
  decide

theorem test_witness_ConfigureMapResult :
    placed.startup.station = .placed ∧ (11 ≤ (11#8).toNat ∧ (11#8).toNat ≤ 16) ∧ (11 ≤ (16#8).toNat ∧ (16#8).toNat ≤ 16)
      ∧ 2#8 ≠ 0#8 ∧ 2#8 ≠ 1#8 ∧ 255#8 ≠ 0#8 ∧ 255#8 ≠ 1#8 ∧ 0#8 = (if false then 1#8 else 0#8) ∧ 1#8 = (if true then 1#8 else 0#8) := by
  decide

/-- A station in PLACED with margins and `n` actions. -/
def toClose (late early n : Nat) : State :=
  withActions
    { placed with startup := { placed.startup with config := { placed.startup.config with lateMargin := late, earlyWindow := early } } } n

theorem test_witness_CloseResult :
    (toClose 50 5000 15).startup.station = .placed
      ∧ (50 ≤ (toClose 50 5000 15).startup.config.lateMargin ∧ (toClose 50 5000 15).startup.config.lateMargin ≤ 5000)
      ∧ (toClose 50 5000 15).startup.config.earlyWindow ≤ 5000 ∧ (toClose 50 5000 15).port.actions.length < 16
      ∧ (50 ≤ (toClose 5000 0 0).startup.config.lateMargin ∧ (toClose 5000 0 0).startup.config.lateMargin ≤ 5000) := by
  decide

/-- A detector in ARMED_LOW has no qualification in progress. -/
theorem armedLow_not_qualifying (l : EdgeLatch) : Detector.armedLow ≠ .qualRise l ∧ Detector.armedLow ≠ .qualFall l :=
  ⟨nofun, nofun⟩

theorem test_witness_ParkResult :
    mid.startup.station = .tracking ∧ mid.zone.queue = [] ∧ mid.handoff.expectations = []
      ∧ (∀ l, mid.sensing.load ≠ .qualRise l ∧ mid.sensing.load ≠ .qualFall l)
      ∧ (∀ l, mid.sensing.exit ≠ .qualRise l ∧ mid.sensing.exit ≠ .qualFall l)
      ∧ (withZone mid [record .tail 0#16 0]).startup.station = .tracking ∧ (withZone mid [record .tail 0#16 0]).zone.queue ≠ [] :=
  ⟨by decide, by decide, by decide, armedLow_not_qualifying, fun _ => ⟨nofun, nofun⟩, by decide⟩

theorem test_witness_ResumeResult :
    (withActions (station .parked 2 false false) 15).startup.station = .parked
      ∧ (withActions (station .parked 2 false false) 15).port.actions.length < 16 := by
  decide

theorem test_witness_ClearTrackResult :
    mid.startup.station = .tracking ∧ (station .parked 2 false false).startup.station = .parked := by decide

theorem test_witness_HostFlagsResult :
    placed.startup.station.operating = true ∧ (8#8 &&& 12#8 &&& 252#8 ≠ 0#8) ∧ (3#8 &&& 3#8 &&& 252#8 = 0#8)
      ∧ (8#8 &&& 4#8 &&& 252#8 = 0#8) := by
  decide

/-- Station 2 with a running bite inhibit. -/
def inhibited : State := { mid with sensing := { mid.sensing with inhibit := some 300000 } }

/-- An edge latch of zeros. -/
def someLatch : EdgeLatch := { w := 0#48, z := 0#48, time := 0 }

/-- Station 2 with a bite that is held from time 0; the qualify time is 2,000 µs. -/
def heldBite : State := { mid with sensing := { mid.sensing with load := .qualRise someLatch } }

theorem test_witness_overdue :
    heldBite.overdue heldBite.sensing.load (heldBite.now + 2001) ∧ ¬ heldBite.overdue heldBite.sensing.load (heldBite.now + 2000)
      ∧ ¬ mid.overdue mid.sensing.load (mid.now + 65535) := by
  exact ⟨show 0 + 2000 < 2001 by decide, show ¬ 0 + 2000 < 2000 by decide, id⟩

theorem test_witness_InhibitCommandResult :
    mid.startup.station = .tracking ∧ 0 < (0#8).toNat * 256 + (1#8).toNat ∧ (0x07#8).toNat * 256 + (0xD0#8).toNat = 2000
      ∧ 2000 < (0x07#8).toNat * 256 + (0xD1#8).toNat ∧ (0#8).toNat * 256 + (0#8).toNat = 0 ∧ mid.sensing.inhibit = none
      ∧ inhibited.startup.station = .tracking ∧ inhibited.sensing.inhibit ≠ none
      ∧ heldBite.startup.station = .tracking := by
  decide

theorem test_witness_PulseAdvancesTravel :
    placed.startup.station ≠ .tracking ∧ mid.startup.station = .tracking := by decide

/-- A zone of six, heads and tails in turn, just short of the end of the zone, with ten actions. -/
def sixWaiting : State :=
  withActions
    (withZone mid
      [record .head 1#16 5631000000, record .tail 1#16 5630000000, record .head 2#16 5630000000,
       record .tail 2#16 5629000000, record .head 3#16 5629000000, record .tail 3#16 0]) 10

theorem test_witness_PulseComparesHeadsAndTails :
    sixWaiting.startup.station = .tracking ∧ (∀ r ∈ sixWaiting.zone.queue, r.kind ≠ .join)
      ∧ sixWaiting.port.actions.length + sixWaiting.zone.queue.length ≤ 16 := by
  decide

/-- A station at slip code 0 whose zone holds a head and then a join that the next pulse carries to `position`, with six
frames in its places and fourteen actions. -/
def joinAt (base : State) (state : FeatureState) (position : Nat) : State :=
  withActions
    (withPlaces
      (withZone { base with slip := { base.slip with code := 0 } }
        [{ record .head 1#16 (position - 1024000) with state := .overdue },
         { record .join 2#16 (position - 1024000) with state := state }])
      (List.replicate 6 offerPlace)) 14

/-- The hypotheses of PulseMovesJoins for `joinAt`, with the position of its join. -/
abbrev joinPremises (s : State) : Prop :=
  let z := BitVec.ofNat 48 (s.travel.z.toNat + (s.startup.config.pitch * (65536 + s.slip.code) + s.travel.r) / 65536)
  s.startup.station = .tracking ∧ s.mill.queue.length + 2 ≤ 8 ∧ s.port.actions.length + 1 + 1 ≤ 16
    ∧ (s.zone.queue.map (·.kind)).drop 1 = [.join]
    ∧ (∀ q ∈ s.zone.queue.take 1, q.position z ≤ 2 ^ 47 ∧ (q.state = .travelling → q.position z < s.zone.thresholds.endOfZone)
        ∧ (q.state = .due ∨ q.state = .passed → q.position z < s.zone.thresholds.late))
    ∧ ∀ q ∈ s.zone.queue.drop 1, q.position z ≤ 2 ^ 47

/-- Where the next pulse carries the join. -/
def joinReaches (s : State) : List Nat :=
  (s.zone.queue.drop 1).map
    (fun q => q.position (BitVec.ofNat 48 (s.travel.z.toNat + (s.startup.config.pitch * (65536 + s.slip.code) + s.travel.r) / 65536)))

theorem test_witness_PulseMovesJoins_passes :
    joinPremises (joinAt mid .travelling 5632000000) ∧ joinReaches (joinAt mid .travelling 5632000000) = [5632000000] := by
  decide

theorem test_witness_PulseMovesJoins_lapses :
    joinPremises (joinAt mid .passed 6041600000) ∧ joinReaches (joinAt mid .passed 6041600000) = [6041600000]
      ∧ joinPremises (joinAt mid .travelling 6041600000) := by
  decide

theorem test_witness_PulseMovesJoins_cuts :
    joinPremises (joinAt exitStation .travelling 5632000000) ∧ (joinAt exitStation .travelling 5632000000).startup.straps.last = true := by
  decide

/-- A head behind a join, both carried past the late threshold by one pulse, with the tail ahead of the join. -/
def crossing (base : State) : State :=
  withActions
    (withPlaces
      (withZone ({ base with slip := { base.slip with code := 0 } }.mapLines 2#8 (TrainLine.withContribution true))
        [record .tail 1#16 (6041600000 - 1024000), record .join 2#16 (6041600000 - 1024000),
         record .head 3#16 (6041600000 - 1024000)])
      (List.replicate 6 offerPlace)) 12

/-- What the examination of the next pulse gathers for a state. -/
def examined (s : State) : Examined :=
  let z := BitVec.ofNat 48 (s.travel.z.toNat + (s.startup.config.pitch * (65536 + s.slip.code) + s.travel.r) / 65536)
  s.zone.queue.foldl (s.examine z (s.now + 600)) {}

theorem test_witness_PulseMovesJoins_together :
    (crossing mid).startup.station = .tracking
      ∧ (crossing mid).contributions.getLsbD 1 = (crossing mid).sources.getLsbD 1
      ∧ (examined (crossing mid)).actions.map (·.kind) = [.overdue, .handed, .lapsed, .overdue]
      ∧ (examined (crossing mid)).frames.length = 2
      ∧ (crossing mid).mill.queue.length + (examined (crossing mid)).frames.length ≤ 8
      ∧ (crossing mid).port.actions.length + (examined (crossing mid)).actions.length ≤ 16
      ∧ (examined (crossing exitStation)).actions.map (·.kind) = [.overdue, .handed, .cut, .overdue]
      ∧ (examined (crossing exitStation)).cut = true := by
  decide

theorem test_witness_PulseMovesJoins_stands :
    joinPremises (joinAt mid .travelling 5631999999) ∧ joinReaches (joinAt mid .travelling 5631999999) = [5631999999]
      ∧ joinPremises (joinAt mid .passed 6041599999) ∧ joinPremises (joinAt exitStation .travelling 5631999999) := by
  decide

/-- The default configuration is in its ranges. -/
theorem default_inRange (last : Bool) : Configuration.default.InRange last where
  zoneLength := by cases last <;> decide
  pitch := by decide
  initialSlip := by decide
  gain := by decide
  qualify := by decide
  lateMargin := by decide
  earlyWindow := by decide
  pacePeriod := by decide
  silencePeriods := by decide
  strobeWidth := by decide

/-- A zone with its front record at the ceiling and the next level with it. -/
def atCeiling : State := withZone mid [record .tail 1#16 (2 ^ 47), record .head 2#16 (2 ^ 47)]

theorem test_witness_PulseKeepsOrder :
    atCeiling.InRange ∧ inOrder atCeiling.travel.z atCeiling.zone.queue ∧ belowCeiling atCeiling.travel.z atCeiling.zone.queue
      ∧ exec (.encoderPulse 600) atCeiling = .next (after (.encoderPulse 600) atCeiling) :=
  ⟨{ config := default_inRange false, slip := by decide, remainder := by decide, advance := by decide, interval := by decide },
    by unfold inOrder; decide, by unfold belowCeiling; decide, rfl⟩

/-- A bite that the lengthened conditions of the second part allow: its edge and the start-of-frame latch stand at the travel
counters. -/
theorem test_witness_PulseKeepsOrder_events :
    heldBite.InRange ∧ heldBite.Quiet ∧ inOrder heldBite.travel.z heldBite.zone.queue
      ∧ belowCeiling heldBite.travel.z heldBite.zone.queue
      ∧ (∀ l : EdgeLatch, heldBite.sensing.load = .qualRise l ∨ heldBite.sensing.load = .qualFall l →
          (heldBite.travel.z - l.z).toNat ≤ 2 ^ 47)
      ∧ (heldBite.travel.z - heldBite.mill.sof.z).toNat + 65535 * heldBite.mill.sof.aLast ≤ 2 ^ 47
      ∧ exec (.qualificationExpiry .load) heldBite = .next (after (.qualificationExpiry .load) heldBite) :=
  ⟨{ config := default_inRange false, slip := by decide, remainder := by decide, advance := by decide, interval := by decide },
    { idle := fun h => absurd (by decide : heldBite.startup.station = .tracking) h
      silenced := fun h => absurd h (by decide), exit := by decide },
    by unfold inOrder; decide, by unfold belowCeiling; decide,
    fun l h => by rcases h with h | h <;> cases h; decide, by decide, rfl⟩

/-- A full zone whose youngest record is HEAD 3. -/
def fullZone : List FeatureRecord :=
  [record .tail 9#16 5000000, record .head 1#16 5000000, record .tail 1#16 4000000, record .head 2#16 4000000,
   record .tail 2#16 3000000, record .head 3#16 3000000]

/-- An entry into an empty zone posts nothing; HEAD 3, behind HEAD 3 in a full zone, enters with serial 0 and three FAULTs. -/
theorem test_witness_EntryProcedure :
    (withActions mid 16).entryFaults (record .head 3#16 0) = [] ∧ (withActions mid 16).startup.station = .tracking
      ∧ ((withActions (withZone mid fullZone) 13).entryFaults (record .head 3#16 0)).map
          (fun a => (a.serial, a.feature, a.value))
        = [(3#16, 1#8, 2#16), (0#16, 1#8, 2#16), (9#16, 2#8, 1#16)]
      ∧ ((withZone mid fullZone).entryRecord (record .head 3#16 4000000)).serial = 0#16
      ∧ ((withZone mid fullZone).entryRecord (record .head 3#16 4000000)).position 0#48 = 3000000 := by
  decide

theorem test_witness_SensorEdges :
    mid.pins.load = false ∧ mid.pins.load ≠ true ∧ mid.sensing.inhibit = none ∧ inhibited.pins.load ≠ true
      ∧ inhibited.sensing.inhibit ≠ none ∧ exitStation.pins.exit = false ∧ exitStation.pins.exit ≠ true := by
  decide

/-- A record of origin BITE that enters with an edge latch of zeros. -/
def bitten (kind : FeatureKind) (serial : Serial) (tag : Option SetTag) (anon : Byte) : FeatureRecord :=
  { record kind serial 0 with tag := tag, anon := anon }

/-- Station 2 with three expectations, six frames and twelve actions, and a qualification that ends next on LOAD. -/
def threeExpected (load : Detector) : State :=
  withActions
    (withPlaces
      { mid with
        sensing := { mid.sensing with load := load }
        handoff :=
          { mid.handoff with
            expectations :=
              [{ serial := 40#16, kind := .tail, tag := none }, { serial := 41#16, kind := .head, tag := some 12 },
               { serial := 41#16, kind := .tail, tag := none }] } }
      (List.replicate 6 offerPlace)) 12

theorem test_witness_QualifiedTakeDownTheTrain_head :
    (threeExpected (.qualRise someLatch)).startup.station = .tracking
      ∧ (threeExpected (.qualRise someLatch)).startup.straps.first = false
      ∧ (threeExpected (.qualRise someLatch)).sensing.load = .qualRise someLatch
      ∧ (threeExpected (.qualRise someLatch)).mill.queue.length + 2 ≤ 8
      ∧ (threeExpected (.qualRise someLatch)).port.actions.length + 1
        + ((threeExpected (.qualRise someLatch)).entryFaults (bitten .head 41#16 (some 12) 0#8)).length + 1 ≤ 16
      ∧ (threeExpected (.qualRise someLatch)).handoff.expectations
        = [{ serial := 40#16, kind := .tail, tag := none }] ++ { serial := 41#16, kind := .head, tag := some 12 }
          :: [{ serial := 41#16, kind := .tail, tag := none }] := by
  decide

theorem test_witness_QualifiedTakeDownTheTrain_tail :
    (threeExpected (.qualFall someLatch)).sensing.load = .qualFall someLatch
      ∧ (threeExpected (.qualFall someLatch)).handoff.expectations
        = [] ++ { serial := 40#16, kind := .tail, tag := none }
          :: [{ serial := 41#16, kind := .head, tag := some 12 }, { serial := 41#16, kind := .tail, tag := none }]
      ∧ (threeExpected (.qualFall someLatch)).port.actions.length
        + ((threeExpected (.qualFall someLatch)).entryFaults (bitten .tail 40#16 none 0#8)).length + 1 ≤ 16 := by
  decide

/-- A HEAD expected whose serial a record of the full zone holds: its entry posts three FAULTs, and the last action finds the last
place of the actions queue. -/
def duplicateExpected : State :=
  { withActions (withZone (threeExpected (.qualRise someLatch)) fullZone) 12 with
    handoff := { mid.handoff with expectations := [{ serial := 3#16, kind := .head, tag := some 12 }] } }

theorem test_witness_QualifiedTakeDownTheTrain_duplicate :
    duplicateExpected.handoff.expectations = [] ++ { serial := 3#16, kind := .head, tag := some 12 } :: []
      ∧ (duplicateExpected.entryFaults (bitten .head 3#16 (some 12) 0#8)).length = 3
      ∧ duplicateExpected.port.actions.length + 3 + 1 ≤ 16 ∧ duplicateExpected.mill.queue.length + 2 ≤ 8 := by
  decide

/-- R4: that entry's OFFER and TAKE carry serial 3 as expected, its record serial 0. -/
theorem test_duplicate_entry :
    let t := after (.qualificationExpiry .load) duplicateExpected
    (t.mill.queue.drop 6).map (·.body) = [.offer 3#16 .head (some 12), .take 3#16 .head 0#8]
      ∧ t.zone.queue.getLast?.map (·.serial) = some 0#16
      ∧ (t.port.actions.drop 12).map (·.kind) = [.fault, .fault, .fault, .bite] := by
  decide

/-- Station 2 with nothing expected and a bite that qualifies next. -/
def unexpectedBite : State := { mid with sensing := { mid.sensing with load := .qualRise someLatch } }

theorem test_witness_QualifiedTakeDownTheTrain_anonymous :
    unexpectedBite.startup.station = .tracking ∧ unexpectedBite.startup.straps.first = false
      ∧ unexpectedBite.sensing.load = .qualRise someLatch
      ∧ (∀ x ∈ unexpectedBite.handoff.expectations, x.kind ≠ .head)
      ∧ unexpectedBite.port.actions.length + (unexpectedBite.entryFaults (bitten .head 0#16 none 1#8)).length + 1 ≤ 16 := by
  decide

/-- The entry station with a bar, a head in its zone far ahead, seven frames and fourteen actions. -/
def enteringAt (load : Detector) (bars : List Bar) : State :=
  withActions
    (withPlaces { entryStation with sensing := { entryStation.sensing with load := load }, entry := { bars := bars } }
      (List.replicate 7 offerPlace)) 14

theorem test_witness_EntersTheTrain :
    ¬ (mid.startup.straps.first = true ∧ mid.startup.station = .tracking)
      ∧ (enteringAt (.qualRise someLatch) []).startup.straps.first = true
      ∧ (enteringAt (.qualRise someLatch) []).startup.station = .tracking
      ∧ (enteringAt (.qualRise someLatch) []).mill.queue.length + 1 ≤ 8
      ∧ (enteringAt (.qualRise someLatch) []).sensing.load = .qualRise someLatch
      ∧ (enteringAt (.qualFall someLatch) []).sensing.load = .qualFall someLatch
      ∧ (enteringAt (.qualRise someLatch) []).port.actions.length
        + ((enteringAt (.qualRise someLatch) []).entryFaults (bitten .head 0#16 none 0#8)).length + 2 ≤ 16
      ∧ (enteringAt (.qualFall someLatch) []).port.actions.length
        + ((enteringAt (.qualFall someLatch) []).entryFaults (bitten .tail 0#16 none 0#8)).length + 1 ≤ 16
      ∧ beforeJoin.port.actions.length + (beforeJoin.entryFaults (bitten .join 42#16 (some 13) 0#8)).length + 2 ≤ 16 := by
  decide

/-- The exit station with a qualification that ends next on EXIT, a zone and `n` actions. -/
def leavingAt (exit : Detector) (queue : List FeatureRecord) (n : Nat) : State :=
  withActions (withZone { exitStation with sensing := { exitStation.sensing with exit := exit } } queue) n

theorem test_witness_ExitGateTakes :
    (leavingAt (.qualRise someLatch) [record .tail 1#16 5] 15).startup.station = .tracking
      ∧ (leavingAt (.qualRise someLatch) [record .tail 1#16 5] 15).sensing.exit = .qualRise someLatch
      ∧ (∀ q ∈ (leavingAt (.qualRise someLatch) [record .tail 1#16 5] 15).zone.queue, q.kind ≠ .head)
      ∧ (leavingAt (.qualRise someLatch) [record .tail 1#16 5] 15).port.actions.length + 1 ≤ 16
      ∧ (leavingAt (.qualRise someLatch) [record .tail 1#16 9, record .head 2#16 5] 14).zone.queue
        = [record .tail 1#16 9] ++ record .head 2#16 5 :: []
      ∧ (leavingAt (.qualRise someLatch) [record .tail 1#16 9, record .head 2#16 5] 14).port.actions.length + 1 + 1 ≤ 16
      ∧ (leavingAt (.qualFall someLatch) [record .tail 1#16 9] 15).sensing.exit = .qualFall someLatch
      ∧ (leavingAt (.qualFall someLatch) [record .tail 1#16 9] 15).zone.queue = [] ++ record .tail 1#16 9 :: [] := by
  decide

/-- Station 2 in a running bite inhibit with LOAD high and a head expected. -/
def inhibitedBite : State :=
  withActions
    (withPlaces
      { inhibited with
        pins := { inhibited.pins with load := true }
        handoff := { inhibited.handoff with expectations := [{ serial := 41#16, kind := .head, tag := some 12 }] } }
      (List.replicate 6 offerPlace)) 15

/-- The entry station in a running bite inhibit with LOAD high and an unjoined bar. -/
def inhibitedEntry : State :=
  { entryStation with
    pins := { entryStation.pins with load := true }
    sensing := { entryStation.sensing with inhibit := some 300000, load := .waitLow }
    entry := { bars := [{ serial := 41#16, tag := some 12, joined := false }] } }

theorem test_witness_InhibitExpiry :
    mid.sensing.inhibit = none ∧ inhibited.sensing.inhibit = some 300000 ∧ inhibited.sensing.load = .armedLow
      ∧ inhibited.pins.load = false ∧ inhibitedBite.sensing.inhibit = some 300000 ∧ inhibitedBite.sensing.load = .armedLow
      ∧ inhibitedBite.pins.load = true ∧ inhibitedBite.startup.station = .tracking ∧ inhibitedBite.mill.queue.length + 2 ≤ 8
      ∧ inhibitedBite.port.actions.length < 16 ∧ inhibitedBite.startup.straps.first = false
      ∧ inhibitedBite.handoff.expectations = { serial := 41#16, kind := .head, tag := some 12 } :: []
      ∧ inhibitedBite.entryFaults (bitten .head 41#16 (some 12) 0#8) = [] ∧ inhibitedEntry.sensing.inhibit = some 300000 ∧ inhibitedEntry.sensing.load = .waitLow
      ∧ inhibitedEntry.pins.load = true ∧ inhibitedEntry.startup.straps.first = true
      ∧ inhibitedEntry.entry.bars = { serial := 41#16, tag := some 12, joined := false } :: []
      ∧ inhibitedEntry.entryFaults (bitten .head 41#16 (some 12) 0#8) = [] := by
  decide

/-- Line bits after a start of frame for each verdict that ends or abandons a frame. -/
theorem test_witness_ReceiverEvents_verdicts :
    judgeLine (List.replicate 7 false) = .stuffing
      ∧ judgeLine ((List.replicate 49 [true, false]).flatten) = .overlong
      ∧ judgeLine (false :: List.replicate 6 true) = .notWholeByte
      ∧ judgeLine ([false, true, false, true, false, true, false, false] ++ List.replicate 6 true) = .tooShort
      ∧ judgeLine ((List.replicate 12 [true, false]).flatten ++ List.replicate 6 true) = .crcFailed
      ∧ judgeLine ((frameBits [0x1C#8, 0x01#8]).dropLast.dropLast) = .unknownKind
      ∧ judgeLine ((frameBits [0x18#8, 0x01#8, 0x01#8]).dropLast.dropLast) = .badLength
      ∧ judgeLine [] = .incomplete
      ∧ judgeLine ((frameBits [0x18#8, 0x01#8]).dropLast.dropLast) = .valid 0x18#8 [0x01#8] := by
  decide +kernel

theorem test_witness_ReceiverEvents :
    (idle mid).mill.rx = .ready ∧ mid.mill.rx ≠ .ready ∧ mid.mill.rx = .hunt ∧ (reading mid).mill.rx ≠ .hunt
      ∧ mid.mill.rx ≠ .receiving ∧ (reading mid).mill.rx = .receiving ∧ (reading mid).mill.flight = none := by
  decide

/-- A station that has sent the last CRC bit of an own frame. -/
def ownEnding : State := { mid with mill := { mid.mill with rx := .receiving, ownTail := true } }

theorem test_witness_ReceiverEvents_own_end :
    ownEnding.mill.rx = .receiving ∧ ownEnding.mill.flight = none ∧ ownEnding.mill.ownTail = true ∧ ownEnding.reading = false
      ∧ (reading mid).mill.ownTail = false
      ∧ (after (.frameInvalid 3 (List.replicate 7 false)) ownEnding).mill = ownEnding.mill
      ∧ (after (.frameInvalid 3 (List.replicate 49 [true, false]).flatten) ownEnding).mill = ownEnding.mill
      ∧ (after (.frameInvalid 3 ((frameBits [0x1C#8, 0x01#8]).dropLast.dropLast)) ownEnding).mill = ownEnding.mill := by
  decide +kernel

/-- Station 2, ready to send, with two slots filled at the same time and one filled later. -/
def slotsFilled : State :=
  { idle mid with
    mill :=
      { (idle mid).mill with
        slots :=
          { raise := { mask := 1#8, filledAt := 9 }, veto := { mask := 2#8, filledAt := 5 }, ask := { mask := 4#8, filledAt := 5 },
            drop := Slot.empty } } }

theorem test_witness_AttemptSendsFirst_slot :
    slotsFilled.startup.station.operating = true ∧ slotsFilled.mill.rx = .ready ∧ slotsFilled.mill.flight = none
      ∧ (slotsFilled.mill.slots.get .veto).mask ≠ 0#8
      ∧ ∀ k', (slotsFilled.mill.slots.get k').mask ≠ 0#8 →
          (slotsFilled.mill.slots.get .veto).filledAt ≤ (slotsFilled.mill.slots.get k').filledAt
            ∧ ((slotsFilled.mill.slots.get k').filledAt = (slotsFilled.mill.slots.get .veto).filledAt → k' ≠ .raise) :=
  ⟨by decide, by decide, by decide, by decide, fun k' => by cases k' <;> decide⟩

theorem test_witness_AttemptSendsFirst_place :
    (idle mid).mill.rx = .ready ∧ (∀ k, (idle mid).mill.slots.get k = Slot.empty) ∧ (idle mid).mill.queue = []
      ∧ mid.mill.rx ≠ .ready ∧ (idle (station .claiming 2 false false)).startup.station = .claiming
      ∧ (withPlaces (idle mid) [offerPlace, takePlace, pacePlace]).mill.queue = [offerPlace] ++ takePlace :: [pacePlace]
      ∧ offerPlace.body.routine = true ∧ takePlace.body.routine = false
      ∧ (withPlaces (idle mid) [offerPlace, pacePlace]).mill.queue = [] ++ offerPlace :: [pacePlace]
      ∧ pacePlace.body.routine = true :=
  ⟨by decide, fun k => by cases k <;> decide, by decide⟩

/-- Station 8 with an attempt under way and fifteen actions. -/
def slotFlying (kind : LineKind) : State :=
  withActions (flying (station .tracking 8 false false) (.slot kind 9#8 3) [false, true, true, true, true]) 15

theorem test_witness_FrameSentEffects :
    mid.mill.flight = none
      ∧ (flying mid (.place takePlace.body) [false]).mill.flight = some { source := .place takePlace.body, wire := [false] }
      ∧ takePlace.body.isClaim = false
      ∧ (slotFlying .drop).mill.flight = some { source := .slot .drop 9#8 3, wire := [false, true, true, true, true] }
      ∧ (slotFlying .drop).port.actions.length < 16 ∧ (slotFlying .drop).startup.position ≤ 8 := by
  decide

theorem test_witness_AttemptsThatFail :
    (claimFlying 2 false).mill.flight = some { source := .place (.claim 2 false false), wire := [false, true] }
      ∧ true ∉ ([false, false, false, false, false, true].drop 1).take 4
      ∧ true ∈ ([false, false, false, false, true].drop 1).take 4
      ∧ (0 < [false, true].length ∧ ¬ ([false, true].getD 0 false = true ∧ 1 ≤ 0 ∧ 0 ≤ 4))
      ∧ ¬ (1 < [false, true].length ∧ ¬ ([false, true].getD 1 false = true ∧ 1 ≤ 1 ∧ 1 ≤ 4))
      ∧ (5 < [false, false, true, false, false, true].length
          ∧ ¬ ([false, false, true, false, false, true].getD 5 false = true ∧ 1 ≤ 5 ∧ 5 ≤ 4))
      ∧ (FrameBody.claim 2 false false).isClaim = true ∧ (claimFlying 2 false).startup.station = .claiming
      ∧ ((claimFlying 2 false).mill.queue.filter (fun g => !g.flying)).length < 8 := by
  decide

theorem test_witness_TransmitQueueRule :
    pacePlace.body.isPace = true ∧ (∀ g ∈ [offerPlace] ++ [takePlace], g.body.isPace = false)
      ∧ (withPlaces mid (List.replicate 7 offerPlace)).mill.queue.length < 8
      ∧ (withPlaces mid (List.replicate 8 takePlace)).mill.queue.length = 8 ∧ offerPlace.body.routine = true
      ∧ takePlace.body.routine = false
      ∧ (withPlaces mid (List.replicate 3 takePlace ++ offerPlace :: List.replicate 4 takePlace)).mill.queue.length = 8
      ∧ offerPlace.flying = false ∧ (∀ g ∈ List.replicate 4 takePlace, g.body.routine = false ∨ g.flying = true)
      ∧ (∀ g ∈ List.replicate 8 takePlace, g.body.routine = false ∨ g.flying = true)
      ∧ (withActions (withPlaces mid (List.replicate 8 takePlace)) 15).port.actions.length < 16 := by
  decide

/-- A state with `n` actions, a clear attention latch and an action-overflow count. -/
def overflowing (n : Nat) (count : Byte) : State :=
  { mid with port := { mid.port with actions := List.replicate n { kind := .bite }, overflow := count } }

/-- R160: the 16th action finds a place and the 17th is counted, up to 255; the attention latch is set by both. -/
theorem test_witness_TransmitQueueRule_actions :
    let posted (n : Nat) (count : Byte) := ((overflowing n count).post { kind := .cut }).port
    ((posted 15 254#8).actions = List.replicate 15 { kind := .bite } ++ [{ kind := .cut }]
        ∧ (posted 15 254#8).overflow = 254#8 ∧ (posted 15 254#8).attnLatch = true)
      ∧ ((posted 16 254#8).actions = List.replicate 16 { kind := .bite } ∧ (posted 16 254#8).overflow = 255#8
        ∧ (posted 16 254#8).attnLatch = true)
      ∧ ((posted 16 255#8).actions = List.replicate 16 { kind := .bite } ∧ (posted 16 255#8).overflow = 255#8) := by
  decide

theorem test_witness_PositionClashStops :
    receivedFrame (.raiseReceived 3 from2 1#8) = some (3, from2) ∧ (withActions (reading mid) 15).reading = true
      ∧ (withActions (reading mid) 15).startup.station.operating = true
      ∧ from2.position = (withActions (reading mid) 15).startup.position
      ∧ (withActions (reading mid) 15).port.actions.length < 16 := by
  decide

/-- The exit station with a bite held from time 0 and an exit-rise held from `moment`, while a frame of its own position ends. -/
def bothHeld (moment : Nat) : State :=
  let s := reading exitStation
  { s with sensing := { s.sensing with load := .qualRise someLatch, exit := .qualRise { someLatch with time := moment } } }

theorem test_witness_PositionClashStops_held :
    receivedFrame (.raiseReceived 2002 from3 1#8) = some (2002, from3) ∧ from3.position = (bothHeld 1).startup.position
      ∧ (bothHeld 1).overdue (bothHeld 1).sensing.load 2002 ∧ (bothHeld 1).overdue (bothHeld 1).sensing.exit 2002
      ∧ edgeMoment (bothHeld 0).sensing.load ≤ edgeMoment (bothHeld 0).sensing.exit
      ∧ ¬ (bothHeld 1).overdue (bothHeld 1).sensing.load 2000 ∧ ¬ (bothHeld 1).overdue (bothHeld 1).sensing.exit 2000 :=
  ⟨by decide, by decide, show 0 + 2000 < 2002 by decide, show 1 + 2000 < 2002 by decide, by decide,
    show ¬ 0 + 2000 < 2000 by decide, show ¬ 1 + 2000 < 2000 by decide⟩

theorem test_witness_FramesNotActedOn :
    receivedFrame (.offerReceived 3 from1 41#16 1#8 255#8) = some (3, from1)
      ∧ (withActions (reading mid) 15).reading = true ∧ (withActions (reading mid) 15).port.actions.length < 16
      ∧ (reading (station .stopped 2 false false)).startup.station = .stopped
      ∧ (reading (station .claiming 2 false false)).startup.station.operating = false
      ∧ (reading placed).startup.station = .placed ∧ from1.position + 1 = (reading placed).startup.position
      ∧ ¬ (mid.mill.rx = .receiving ∧ mid.mill.flight = none ∧ mid.mill.ownTail = false)
      ∧ (reading mid).startup.station.operating = true ∧ from3.position ≠ (reading mid).startup.position
      ∧ from3.position + 1 ≠ (reading mid).startup.position ∧ from8.position + 1 ≠ (reading mid).startup.position
      ∧ from8.position ≠ (reading mid).startup.position + 1 ∧ (reading exitStation).startup.straps.last = true := by
  decide

/-- A PACE from own+1 at a station strapped LAST, at which a NEIGHBOUR record is not kept. -/
theorem test_witness_FramesNotActedOn_pace :
    let arb : Arbitration := { routine := true, station := 3 }
    receivedFrame (.paceReceived 3 arb 0x60#8 41#16 1#8) = some (3, arb) ∧ (reading exitStation).reading = true
      ∧ arb.position = (reading exitStation).startup.position + 1 ∧ (reading exitStation).startup.straps.last = true
      ∧ arb.position + 1 ≠ (reading exitStation).startup.position
      ∧ (after (.paceReceived 3 arb 0x60#8 41#16 1#8) (reading exitStation)).handoff = exitStation.handoff := by
  decide

/-- Station 2 reading a frame, with expectations and fourteen actions. -/
def offered (l : List Expectation) : State := withActions { reading mid with handoff := { mid.handoff with expectations := l } } 14

/-- Six, and five, expectations. -/
def sixTails : List Expectation := List.replicate 6 { serial := 0#16, kind := .tail, tag := none }
def fiveTails : List Expectation := List.replicate 5 { serial := 0#16, kind := .tail, tag := none }

theorem test_witness_OfferResult :
    (offered sixTails).reading = true ∧ (offered sixTails).startup.station = .tracking
      ∧ from1.position + 1 = (offered sixTails).startup.position ∧ (offered sixTails).port.actions.length + 2 ≤ 16
      ∧ 4#8 ≠ 1#8 ∧ 4#8 ≠ 2#8 ∧ 4#8 ≠ 3#8 ∧ 0#8 ≠ 1#8 ∧ 0#8 ≠ 2#8 ∧ 0#8 ≠ 3#8
      ∧ 6 ≤ (offered sixTails).handoff.expectations.length ∧ (offered fiveTails).handoff.expectations.length < 6
      ∧ (254#8).toNat = (254 : SetTag).val ∧ 1#8 = FeatureKind.head.code ∧ 2#8 = FeatureKind.tail.code
      ∧ (∃ x ∈ (offered [{ serial := 41#16, kind := .head, tag := none }]).handoff.expectations,
          x.kind = .head ∧ x.serial = 41#16)
      ∧ ¬ ∃ x ∈ (offered fiveTails).handoff.expectations, x.kind = .head ∧ x.serial = 41#16 := by
  decide

/-- Station 2 reading a frame, with a tail ahead of a head that stands at the early window, seven frames and 13 actions. -/
def takingAt (serial : Serial) : State :=
  withActions
    (withPlaces (withZone (reading mid) [record .tail 1#16 6000000000, record .head serial 5017600000]) (List.replicate 7 offerPlace))
    13

theorem test_witness_TakeResult :
    (takingAt 41#16).reading = true ∧ (takingAt 41#16).startup.station.operating = true
      ∧ (takingAt 41#16).startup.straps.last = false ∧ from3.position = (takingAt 41#16).startup.position + 1
      ∧ 0#8 ≠ 1#8 ∧ 0#8 ≠ 2#8 ∧ 0#8 ≠ 3#8 ∧ (withActions (reading mid) 15).port.actions.length < 16
      ∧ (∀ q ∈ (takingAt 41#16).zone.queue, ¬ (q.kind = .head ∧ q.serial = 42#16))
      ∧ (takingAt 41#16).zone.queue = [record .tail 1#16 6000000000] ++ record .head 41#16 5017600000 :: []
      ∧ (takingAt 41#16).port.actions.length + 1 + 2 ≤ 16 ∧ (takingAt 41#16).mill.queue.length < 8
      ∧ (takingAt 41#16).zone.thresholds.early ≤ (record .head 41#16 5017600000).position (takingAt 41#16).travel.z
      ∧ ¬ (takingAt 41#16).zone.thresholds.early ≤ (record .head 41#16 5017599999).position (takingAt 41#16).travel.z := by
  decide

theorem test_witness_SlipSampleRule :
    (learner 16384).code ≤ 16384 ∧ 16 ≤ 16
      ∧ (2 * 69139 * 5629711360 ≤ 2 * (5800 * 1024000 * 65536) + 5629711360
          ∧ 2 * (5800 * 1024000 * 65536) + 5629711360 < 2 * (69139 + 1) * 5629711360)
      ∧ (24576 : Int) < 37711 ∧ -8192 ≤ (3603 : Int) ∧ (3603 : Int) ≤ 24576
      ∧ (2 * (16 * (101 : Int).natAbs) ≤ 2 * ((403 : Int).natAbs * 4) + 16
          ∧ 2 * ((403 : Int).natAbs * 4) + 16 < 2 * (16 * ((101 : Int).natAbs + 1))) := by
  decide

/-- Both ends of the band are plausible and their neighbours are not (R99). -/
theorem test_witness_SlipSampleRule_band :
    plausible (-8192) = true ∧ plausible (-8193) = false ∧ plausible 24576 = true ∧ plausible 24577 = false := by decide

/-- Station 2 reading a frame, with a tail and the join expected, six frames and twelve actions. -/
def joining : State :=
  withActions
    (withPlaces
      { reading mid with
        handoff :=
          { mid.handoff with
            expectations := [{ serial := 41#16, kind := .tail, tag := none }, { serial := 42#16, kind := .join, tag := some 13 }] } }
      (List.replicate 6 offerPlace)) 12

theorem test_witness_JoinsArrive :
    joining.reading = true ∧ joining.startup.station = .tracking ∧ from1.position + 1 = joining.startup.position
      ∧ joining.mill.queue.length + 2 ≤ 8
      ∧ joining.port.actions.length + 1 + (joining.entryFaults (bitten .join 42#16 (some 13) 0#8)).length + 2 ≤ 16
      ∧ (13#8).toNat = (13 : SetTag).val
      ∧ joining.handoff.expectations
        = [{ serial := 41#16, kind := .tail, tag := none }] ++ { serial := 42#16, kind := .join, tag := some 13 } :: []
      ∧ ¬ (∃ q ∈ joining.zone.queue, q.kind = .join ∧ q.serial = 42#16)
      ∧ joining.handoff.lastTake ≠ some { serial := 42#16, kind := .join }
      ∧ (∃ q ∈ (withZone joining [record .join 42#16 0]).zone.queue, q.kind = .join ∧ q.serial = 42#16)
      ∧ (∀ x ∈ joining.handoff.expectations, ¬ (x.kind = .join ∧ x.serial = 43#16)) := by
  decide

/-- Station 2 reading a frame, with an anonymous head behind a tail and fourteen actions. -/
def binding : State :=
  withActions (withZone (reading mid) [record .tail 1#16 9, { record .head 0#16 5 with anon := 255#8 }]) 14

theorem test_witness_BindResult :
    binding.reading = true ∧ binding.startup.station = .tracking ∧ from1.position + 1 = binding.startup.position
      ∧ binding.port.actions.length + 2 ≤ 16 ∧ (∀ q ∈ binding.zone.queue, q.anon ≠ 1#8)
      ∧ 43#16 ≠ 0#16 ∧ 255#8 ≠ 0#8 ∧ 1#8 = FeatureKind.head.code
      ∧ binding.zone.queue = [record .tail 1#16 9] ++ { record .head 0#16 5 with anon := 255#8 } :: []
      ∧ (∀ q ∈ [record .tail 1#16 9], q.anon ≠ 255#8)
      ∧ (¬ ∃ q ∈ [record .tail 1#16 9] ++ [], q.kind = .head ∧ q.serial = 43#16)
      ∧ ∃ q ∈ [record .head 43#16 9] ++ [], q.kind = .head ∧ q.serial = 43#16 := by
  decide

theorem test_witness_PaceResult :
    (takingAt 41#16).reading = true ∧ (takingAt 41#16).startup.station.operating = true
      ∧ from3.position ≠ (takingAt 41#16).startup.position
      ∧ (0x41#8).toNat / 32 + 1 = from3.position ∧ (0x21#8).toNat / 32 + 1 ≠ from3.position
      ∧ (0x01#8).toNat / 32 + 1 = from1.position ∧ from1.position + 1 = (takingAt 41#16).startup.position
      ∧ from3.position = (takingAt 41#16).startup.position + 1 ∧ ¬ (4#8 = 0#8 ∨ 4#8 = 1#8 ∨ 4#8 = 2#8 ∨ 4#8 = 3#8)
      ∧ (takingAt 41#16).port.actions.length + (takingAt 41#16).zone.queue.length + 1 ≤ 16
      ∧ (takingAt 41#16).zone.queue = [record .tail 1#16 6000000000] ++ record .head 41#16 5017600000 :: []
      ∧ FeatureKind.head.code = 1#8
      ∧ (∀ q ∈ [record .tail 1#16 6000000000], ¬ (q.kind.code = 1#8 ∧ q.serial = 41#16))
      ∧ ∀ q ∈ (takingAt 41#16).zone.queue, ¬ (q.kind.code = 3#8 ∧ q.serial = 41#16) := by
  decide

theorem test_witness_LineFramesReceived :
    (withActions (reading mid) 14).reading = true ∧ (withActions (reading mid) 14).startup.station.operating = true
      ∧ from8.position ≠ (withActions (reading mid) 14).startup.position
      ∧ (withActions (reading mid) 14).port.actions.length + 2 ≤ 16 := by
  decide

/-- Station 2 with its timers running and `n` actions. -/
def timed (n : Nat) : State :=
  withActions
    { mid with
      travel := { mid.travel with stallRunning := true }
      handoff :=
        { mid.handoff with
          paceTimer := some 20000, up := { mid.handoff.up with silence := some 80000 }
          down := { mid.handoff.down with silence := some 80000 } } } n

/-- No qualification in progress on either input of the exit station (R41). -/
theorem test_witness_TimerExpiries_detectors :
    (∀ l, exitStation.sensing.load ≠ .qualRise l ∧ exitStation.sensing.load ≠ .qualFall l)
      ∧ ∀ l, exitStation.sensing.exit ≠ .qualRise l ∧ exitStation.sensing.exit ≠ .qualFall l :=
  ⟨armedLow_not_qualifying, armedLow_not_qualifying⟩

/-- The stall timer stopped and running (R26). -/
theorem test_witness_TimerExpiries :
    mid.travel.stallRunning = false ∧ (timed 12).travel.stallRunning = true := by decide

/-- The PACE timer stopped and running, at both sides of the condition ACTIONS_NEAR_FULL (R18, R78). -/
theorem test_witness_TimerExpiries_pace :
    mid.handoff.paceTimer = none ∧ (timed 12).handoff.paceTimer = some 20000 ∧ (timed 12).conditionCode = 1
      ∧ (timed 11).conditionCode = 0 := by
  decide

/-- The silence timers stopped and running, with room for the NEIGHBOUR action and without (R80, R160). -/
theorem test_witness_TimerExpiries_silence :
    (mid.handoff.up.silence = none ∧ mid.handoff.down.silence = none)
      ∧ ∀ n ∈ [15, 16],
        (timed n).handoff.up.silence = some 80000 ∧ (timed n).handoff.down.silence = some 80000
          ∧ (timed n).startup.position ≤ 8 ∧ (timed n).port.actions.length = n := by
  decide

/-- A veto window stopped and running, on the last line (R124). -/
theorem test_witness_TimerExpiries_window :
    let s := mid.mapLines 128#8 (fun l => { l with ask := .window, windowEnd := some 500 })
    (mid.lines.line.get 7).windowEnd = none ∧ (s.lines.line.get 7).windowEnd = some 500 := by
  decide

theorem test_witness_CollectionsAreKept :
    beforeBite.WithinCapacity ∧ beforeBite.Distinct ∧ beforeBite.AttentionKept
      ∧ exec (.qualificationExpiry .load) beforeBite = .next (after (.qualificationExpiry .load) beforeBite) :=
  ⟨{ zone := by decide, expectations := by decide, ready := by decide, bars := by decide, places := by decide,
     actions := by decide, onePace := by decide },
    { zone := by unfold distinctRecords; decide, expectations := by unfold distinctExpectations; decide, ready := by decide,
      bars := by decide },
    fun h => absurd (by decide : beforeBite.port.actions = []) h, rfl⟩

theorem test_witness_RangesAndStatesAreKept :
    beforeBite.InRange ∧ beforeBite.ProperRecords ∧ beforeBite.Closed ∧ beforeBite.Stationed ∧ beforeBite.Quiet
      ∧ exec (.qualificationExpiry .load) beforeBite = .next (after (.qualificationExpiry .load) beforeBite) :=
  ⟨{ config := default_inRange false, slip := by decide, remainder := by decide, advance := by decide, interval := by decide },
    by unfold State.ProperRecords; exact fun r h => absurd h (by simp [beforeBite, mid, station, State.reset]),
    fun _ => by decide,
    { unset := by decide, claiming := by decide, placed := by decide, position := by decide, first := by decide },
    { idle := fun h => absurd (by decide : beforeBite.startup.station = .tracking) h
      silenced := fun h => absurd h (by decide), exit := by decide }, rfl⟩

theorem test_witness_TrainLinesAreKept :
    beforeBite.LinesHeld ∧ beforeBite.LinesFollow
      ∧ exec (.qualificationExpiry .load) beforeBite = .next (after (.qualificationExpiry .load) beforeBite) :=
  ⟨fun _ => by decide, fun _ => by decide, rfl⟩

theorem test_witness_StationMoves :
    exec (.close 4 []) placed = .next (after (.close 4 []) placed) ∧ (after (.close 4 []) placed).startup.station = .tracking
      ∧ moves (.close 4 []) .placed .tracking = true :=
  ⟨rfl, by decide, by decide⟩

theorem test_witness_StoppedStandsStill :
    (station .stopped 2 false false).startup.station = .stopped ∧ (station .stopped 2 false false).Silenced
      ∧ exec (.readActions 4 []) (station .stopped 2 false false) = .next (after (.readActions 4 []) (station .stopped 2 false false)) :=
  ⟨by decide,
    { load := by decide, exit := by decide, inhibit := by decide, stall := by decide, claimRepeat := by decide,
      pace := by decide, up := by decide, down := by decide, windows := by decide, places := by decide, slots := by decide,
      flight := by decide }, rfl⟩

theorem test_witness_LineFramesRoundTrip :
    receivedFrame (.lapseReceived 5 from8 42#16 13#8 1#8 400#16 65535#16) = some (5, from8)
      ∧ (Instr.lapseReceived 5 from8 42#16 13#8 1#8 400#16 65535#16).content
        = some [0x75#8, 0#8, 42#8, 13#8, 1#8, 1#8, 144#8, 255#8, 255#8] := by
  decide


/-- The verdicts of R138 and R139 at the edges of their clauses: 89 and 97 content bits, 96 with their end and without, one bit
past a whole byte, and a byte of which the closing run gives four bits. -/
theorem test_witness_LineFramesRoundTrip_verdicts :
    judgeLine (stuffed (true :: (List.replicate 44 [true, false]).flatten) ++ List.replicate 8 false) = .stuffing
      ∧ judgeLine (stuffed (true :: (List.replicate 48 [true, false]).flatten) ++ [false]) = .overlong
      ∧ judgeLine (stuffed (List.replicate 48 [true, false]).flatten) = .incomplete
      ∧ judgeLine (stuffed (List.replicate 48 [true, false]).flatten ++ List.replicate 8 true)
        = bytesVerdict (List.replicate 12 0xAA#8)
      ∧ judgeLine (stuffed [false] ++ List.replicate 8 true) = .notWholeByte
      ∧ bytesBits [0x0F#8] = [false, false, false, false] ++ List.replicate 4 true
      ∧ judgeLine (stuffed [false, false, false, false] ++ List.replicate 8 true) = bytesVerdict [0x0F#8]
      ∧ bytesVerdict [0x0F#8] = .tooShort := by
  decide +kernel

theorem test_witness_SensorEdges_held :
    heldBite.pins.load ≠ true ∧ heldBite.overdue heldBite.sensing.load 2001 ∧ ¬ heldBite.overdue heldBite.sensing.load 2000
      ∧ (leavingAt (.qualFall someLatch) [] 0).pins.exit ≠ true
      ∧ (leavingAt (.qualFall someLatch) [] 0).overdue (leavingAt (.qualFall someLatch) [] 0).sensing.exit 2001 :=
  ⟨by decide, show 0 + 2000 < 2001 by decide, show ¬ 0 + 2000 < 2000 by decide, by decide, show 0 + 2000 < 2001 by decide⟩

end Sys2Proof.Tests
end

section
/-!
The start-up unit's own commands: what hardware reset, PARK and RESUME leave, and that the part after reset is safe.
-/

namespace Sys2Proof.Machine

/-! ### Answers and posts, as the statements say them -/

/-- A held response without data, byte by byte (R156, section 9.6.2). -/
theorem responseBlock_nil (code : Byte) (a : Answer) :
    responseBlock code a [] = [4#8, code, a.code, 0#8 - (4#8 + code + a.code)] := by
  simp [responseBlock, sealBlock, blockSum]

/-- The answer to a command that does nothing else (R156, R157). -/
theorem State.elapse_answer (s : State) (dt : Nat) (code : Byte) (a : Answer) :
    (s.elapse dt).answer code a = s.answered dt code a := by
  simp [State.answer, State.answerData, State.elapse, State.answered, responseBlock_nil]

/-- An action that finds room stands youngest and sets the latch; nothing else changes (R160, R162). -/
theorem State.post_room (s : State) (a : Action) (h : s.port.actions.length < 16) :
    s.post a = { s with port := s.port.posted [a] } := by
  simp [State.post, Port.posted, Config.actionCapacity, h]

/-- Posting nothing leaves the port as it stands. -/
@[simp] theorem Port.posted_nil (p : Port) : p.posted [] = p := by
  simp [Port.posted]

/-- Posting in two portions is posting once (R160). -/
theorem Port.posted_posted (p : Port) (as bs : List Action) : (p.posted as).posted bs = p.posted (as ++ bs) := by
  cases as <;> simp [Port.posted]

/-- Actions that find room stand youngest in their order; nothing else changes (R160, R162). -/
theorem State.postAll_room (s : State) (as : List Action) (h : s.port.actions.length + as.length ≤ 16) :
    s.postAll as = { s with port := s.port.posted as } := by
  induction as generalizing s with
  | nil => simp [State.postAll]
  | cons a as ih =>
    simp only [List.length_cons] at h
    have hpost := s.post_room a (by omega)
    have hrest := ih (s.post a) (by rw [hpost]; simp [Port.posted]; omega)
    simp only [State.postAll, List.foldl_cons] at hrest ⊢
    rw [hrest, hpost, Port.posted_posted, List.singleton_append]

/-- A frame other than a PACE that finds a free place is placed as the youngest; nothing else changes (R143). -/
theorem State.enqueue_room (s : State) (body : FrameBody) (age : Option AgeCount) (hp : body.isPace = false)
    (hl : s.mill.queue.length < 8) :
    s.enqueue body age
      = { s with mill := { s.mill with queue := s.mill.queue ++ [{ body := body, age := age, flying := false }] } } :=
  s.enqueue_free body age (by simp [hp]) hl

/-! ### Hardware reset -/

/-- Settles O15: the reset state is written out, and the CLAIM of a station strapped FIRST finds the places empty. -/
theorem hardwareResetResult : Obligations.HardwareResetResult := by
  unfold Obligations.HardwareResetResult
  refine ⟨?_, ?_⟩
  · intro straps chainIn s
    dsimp only
    refine ⟨fun h => ?_, fun h => ?_⟩
    · simp [exec, execHardwareReset, State.afterReset, h]
    · simp only [exec, execHardwareReset, State.afterReset, h, if_true, State.enterClaiming]
      rw [State.enqueue_room _ _ _ rfl]
      · simp [State.claimBody, h, State.reset]
      · exact Nat.zero_lt_succ 7
  · have hlines : ∀ n : Fin 8, State.reset.lines.line.get n = TrainLine.fresh := by decide
    have hslots : ∀ k : LineKind, State.reset.mill.slots.get k = Slot.empty := fun k => by cases k <;> rfl
    simp only [hlines, hslots]
    and_intros <;> intros <;> rfl

/-- Settles O3: every collection is empty, every item at its default, and no line is contributed to. -/
theorem resetIsSafe : Obligations.ResetIsSafe where
  capacity := ⟨by decide, by decide, by decide, by decide, by decide, by decide, by decide⟩
  distinct := ⟨List.Pairwise.nil, List.Pairwise.nil, List.nodup_nil, List.nodup_nil⟩
  proper := by simp [State.ProperRecords, State.reset]
  range := ⟨by constructor <;> decide, by decide, by decide, by decide, by decide⟩
  closed := by simp [State.Closed, State.reset]
  stationed := by constructor <;> simp [State.reset, StationState.operating]
  quiet := ⟨fun _ _ => ⟨rfl, rfl, rfl, rfl, rfl, rfl⟩, by simp [State.reset], fun _ => rfl⟩
  held := by simp [State.LinesHeld, State.reset, StationState.operating]
  follow := fun _ => by decide
  attention := by simp [State.AttentionKept, State.reset]

/-! ### PARK and RESUME -/

/-- A qualification is in progress exactly in QUAL_RISE and QUAL_FALL (R37). -/
theorem Detector.qualifying_eq_false {d : Detector} :
    d.qualifying = false ↔ ∀ l, d ≠ .qualRise l ∧ d ≠ .qualFall l := by
  cases d <;> simp [Detector.qualifying]

/-- The conditions of PARK in the spec's words (R15). -/
theorem State.clearToPark_iff (s : State) :
    s.clearToPark = true ↔
      s.zone.queue = [] ∧ s.handoff.expectations = []
        ∧ (∀ l, s.sensing.load ≠ .qualRise l ∧ s.sensing.load ≠ .qualFall l)
        ∧ (∀ l, s.sensing.exit ≠ .qualRise l ∧ s.sensing.exit ≠ .qualFall l) := by
  simp only [State.clearToPark, Bool.and_eq_true, List.isEmpty_iff, Bool.not_eq_true', Detector.qualifying_eq_false,
    and_assoc]

/-- Settles O24: refused, nothing but the response moves; taken, PARKED is entered. -/
theorem parkResult : Obligations.ParkResult := by
  unfold Obligations.ParkResult
  intro dt s hs
  dsimp only
  have hclear := (s.elapse dt).clearToPark_iff
  simp only [State.elapse_fields] at hclear
  rw [← hclear]
  have hexec : exec (.park dt []) s = .next (s.elapse dt).park := by
    simp [exec, execPark, State.whenAllowed, hs]
  refine ⟨fun h => ?_, fun h => ?_⟩
  · rw [hexec, State.park, if_neg h, State.elapse_answer]
  · rw [hexec, State.park, if_pos h]
    simp [State.answer, State.answerData, State.enterParked, State.elapse, State.answered, responseBlock_nil,
      Config.stalled]

/-- The detectors in use armed by their levels, with FAULT BITE_PRESENT when LOAD is high (R38). -/
theorem State.armDetectors_eq (s : State) (h : s.port.actions.length < 16) :
    s.armDetectors
      = { s with
          sensing :=
            { s.sensing with
              load := if s.pins.load then .waitLow else .armedLow
              exit := if s.startup.straps.last then (if s.pins.exit then .waitLow else .armedLow) else s.sensing.exit }
          port :=
            s.port.posted
              (if s.pins.load then [{ kind := .fault, serial := 0#16, feature := 0#8, tag := 255#8, value := 7#16 }]
               else []) } := by
  unfold State.armDetectors
  dsimp only
  split_ifs <;> simp_all [State.post_room, armed, faultAction, FaultCause.code]

/-- Settles O25: TRACKING is entered by the two levels of LOAD. -/
theorem resumeResult : Obligations.ResumeResult := by
  unfold Obligations.ResumeResult
  intro dt s hs hroom
  have hexec : exec (.resume dt []) s = .next (s.elapse dt).resumeTracking := by
    simp [exec, execResume, State.whenAllowed, hs]
  rw [hexec, State.resumeTracking, State.armDetectors_eq]
  · simp only [State.answer, State.answerData, responseBlock_nil]
    rfl
  · exact hroom

end Sys2Proof.Machine
end


section
/-!
What a command can do, said once: every event is a sequence of moves, each a named operation with the condition under which
it happens. The invariants of Safety.lean are then checked move by move.
-/

namespace Sys2Proof.Machine

/-! ### Moves -/

/-- The part is not in STOPPED, as far as the station states of `s`, in which the command was taken, tell (R13, R14). -/
def State.Awake (s u : State) : Prop := s.Quiet → u.startup.station ≠ .stopped

/-- The part is in TRACKING, as far as the station states of `s`, in which the command was taken, tell (R13, R15, R43). -/
def State.Tracks (s u : State) : Prop := s.Quiet → u.startup.station = .tracking

/-- The entry Z of a record that enters: that of this moment, that of an edge that was being qualified when the command was
taken, or one that is projected back from the start-of-frame latch (R34, R44, R45, R49). -/
def State.Dated (s u : State) (z : TravelWord) : Prop :=
  z = u.travel.z
    ∨ (∃ l : EdgeLatch, (s.sensing.load = .qualRise l ∨ s.sensing.load = .qualFall l) ∧ z = l.z)
    ∨ ∃ age ≤ 65535, z = eventZ u.mill.sof age

/-- One move of the part while it carries out the command `c` that it took in the state `s`. -/
inductive Move (c : Instr) (s : State) : State → State → Prop
  | time (u : State) (n : Nat) : Move c s u { u with now := n }
  | pins (u : State) (p : Pins) (sigin0 : p.sigin0 = u.pins.sigin0) (sigin1 : p.sigin1 = u.pins.sigin1) :
    Move c s u { u with pins := p }
  | strobe (u : State) (d : Option Nat) : Move c s u { u with strobe := d }
  -- The controller port.
  | held (u : State) (b : List Byte) : Move c s u { u with port := { u.port with held := b } }
  | read (u : State) : Move c s u u.readActions
  | posted (u : State) (a : Action) (awake : s.Awake u) : Move c s u (u.post a)
  | attention (u : State) (e : Bool) (awake : s.Awake u) : Move c s u (u.setAttention e)
  | readyAdded (u : State) (t : SetTag) (awake : s.Awake u) (new : t ∉ u.port.ready) (room : u.port.ready.length < 4) :
    Move c s u (u.withReady (u.port.ready ++ [t]))
  | readyDropped (u : State) (l : List SetTag) (awake : s.Awake u) (sub : l.Sublist u.port.ready) :
    Move c s u (u.withReady l)
  | barAdded (u : State) (b : Bar) (awake : s.Awake u) (new : ∀ x ∈ u.entry.bars, x.serial ≠ b.serial)
    (room : u.entry.bars.length < 4) : Move c s u (u.withBars (u.entry.bars ++ [b]))
  | barsDropped (u : State) (l : List Bar) (awake : s.Awake u) (sub : l.Sublist u.entry.bars) : Move c s u (u.withBars l)
  -- The hand-off unit and the slip learner.
  | expected (u : State) (e : Expectation) (tracks : s.Tracks u)
    (new : e.serial ≠ 0#16 → ∀ x ∈ u.handoff.expectations, x.kind = e.kind → x.serial ≠ e.serial)
    (room : u.handoff.expectations.length < 6) :
    Move c s u (u.withExpectations (u.handoff.expectations ++ [e]))
  | expectationsDropped (u : State) (l : List Expectation) (awake : s.Awake u)
    (sub : l.Sublist u.handoff.expectations) : Move c s u (u.withExpectations l)
  | handoff (u : State) (h : HandOff) (awake : s.Awake u) (same : h.expectations = u.handoff.expectations) :
    Move c s u { u with handoff := h }
  | slip (u : State) (l : SlipLearner) (awake : s.Awake u) (range : u.InRange → l.code ≤ Config.slipMax) :
    Move c s u { u with slip := l }
  -- The zone tracker.
  | entered (u : State) (r : FeatureRecord) (tracks : s.Tracks u) (proper : r.Proper) (dated : s.Dated u r.entryZ) :
    Move c s u (u.enterZone r)
  | removed (u : State) (ahead : List FeatureRecord) (r : FeatureRecord) (behind : List FeatureRecord)
    (cls : HandedClass) (own : Action) (awake : s.Awake u) (stands : u.zone.queue = ahead ++ r :: behind) :
    Move c s u (u.remove ahead cls own behind)
  | changed (u : State) (ahead : List FeatureRecord) (r r' : FeatureRecord) (behind : List FeatureRecord)
    (awake : s.Awake u) (stands : u.zone.queue = ahead ++ r :: behind) (kind : r'.kind = r.kind)
    (place : r'.entryZ = r.entryZ) (head : r'.untakenHead = r.untakenHead)
    (name : r'.serial = r.serial ∨ ∀ q ∈ ahead ++ behind, q.kind = r'.kind → q.serial ≠ r'.serial)
    (proper : r.Proper → r'.Proper) : Move c s u (u.withZone (ahead ++ r' :: behind))
  | ceiling (u : State) (awake : s.Awake u) : Move c s u (u.withZone (u.zone.queue.map (holdAtCeiling u.travel.z)))
  | earlyTakes (u : State) (n : Count16) (awake : s.Awake u) :
    Move c s u { u with zone := { u.zone with earlyTakes := n } }
  | overdue (u : State) (awake : s.Awake u) : Move c s u u.setOverdueFlag
  | cleared (u : State) (awake : s.Awake u) : Move c s u u.clearTrack
  -- Stand sensing and the travel counter.
  | sensing (u : State) (x : Sensing) (tracks : s.Tracks u) (exit : u.sensing.exit = .dormant → x.exit = .dormant) :
    Move c s u { u with sensing := x }
  | qualifyFail (u : State) (n : Count16) (awake : s.Awake u) :
    Move c s u { u with sensing := { u.sensing with qualifyFail := n } }
  | pulse (u : State) (command : ∃ dt, c = .encoderPulse dt) (tracking : u.startup.station = .tracking) :
    Move c s u { u with travel := u.travel.pulse u.startup.config.pitch u.slip.code u.now }
  | stall (u : State) (awake : s.Awake u) :
    Move c s u { u with travel := { u.travel with tp := Config.stalled, stallRunning := false } }
  | countsCleared (u : State) (awake : s.Awake u) : Move c s u u.zeroCounts
  -- The mill line.
  | queued (u : State) (body : FrameBody) (age : Option AgeCount) (awake : s.Awake u) : Move c s u (u.enqueue body age)
  | places (u : State) (q : List QueuedFrame) (awake : s.Awake u)
    (sub : (q.map QueuedFrame.body).Sublist (u.mill.queue.map QueuedFrame.body)) :
    Move c s u { u with mill := { u.mill with queue := q } }
  | receiver (u : State) (m : MillLine) (queue : m.queue = u.mill.queue) (slots : m.slots = u.mill.slots)
    (flight : m.flight = u.mill.flight) (txErrors : m.txErrors = u.mill.txErrors)
    (txOverflows : m.txOverflows = u.mill.txOverflows) (sof : m.sof = u.mill.sof ∨ m.sof = u.sofNow) :
    Move c s u { u with mill := m }
  | txCounts (u : State) (errors overflows : Count16) (awake : s.Awake u) :
    Move c s u { u with mill := { u.mill with txErrors := errors, txOverflows := overflows } }
  | slotLaunched (u : State) (kind : LineKind) (filledAt : Nat) (wire : List Bool) (awake : s.Awake u)
    (free : u.mill.flight = none) :
    Move c s u
      { u with
        mill :=
          { u.mill with
            slots := u.mill.slots.modify kind (fun _ => Slot.empty)
            flight := some { source := .slot kind (u.mill.slots.get kind).mask filledAt, wire := wire } } }
  | placeLaunched (u : State) (body : FrameBody) (wire : List Bool) (awake : s.Awake u) (free : u.mill.flight = none) :
    Move c s u { u with mill := { u.mill with flight := some { source := .place body, wire := wire } } }
  | placeLanded (u : State) (body : FrameBody) (wire : List Bool) (awake : s.Awake u)
    (flying : u.mill.flight = some { source := .place body, wire := wire }) : Move c s u u.endFlight
  | slotSent (u : State) (kind : LineKind) (m : LineMask) (filledAt : Nat) (wire : List Bool) (awake : s.Awake u)
    (flying : u.mill.flight = some { source := .slot kind m filledAt, wire := wire }) :
    Move c s u (u.endFlight.lineFrameSent kind m)
  | slotReturned (u : State) (kind : LineKind) (m : LineMask) (filledAt : Nat) (wire : List Bool) (awake : s.Awake u)
    (flying : u.mill.flight = some { source := .slot kind m filledAt, wire := wire }) :
    Move c s u (u.endFlight.returnLines kind m filledAt)
  -- The train lines.
  | lineHeld (u : State) (m : LineMask) (position : Nat) (awake : s.Awake u) : Move c s u (u.lineHeld m position)
  | lineAsked (u : State) (m : LineMask) (awake : s.Awake u) : Move c s u (u.lineAsked m)
  | lineDropped (u : State) (m : LineMask) (position : Nat) (awake : s.Awake u) : Move c s u (u.lineDropped m position)
  | windowsEnd (u : State) (m : LineMask) (awake : s.Awake u) :
    Move c s u ((u.merge .drop m).mapLines m (TrainLine.withAsk .dropping))
  | sigin (u : State) (input : SignalInput) (level : Bool) :
    Move c s u
      (State.formContributions { u with pins := u.pins.withSigin input level } (u.startup.config.sigin input).lines)
  | hostTrip (u : State) (flag : Bool) (awake : s.Awake u) : Move c s u (u.setHostTrip flag)
  | signals (u : State) (set clear : LineMask) (awake : s.Awake u) : Move c s u (u.signal set clear)
  -- The start-up unit.
  | heard (u : State) (claim : Option ClaimHeard) (repeatAt : Option Nat) (awake : s.Awake u) :
    Move c s u { u with startup := { u.startup with lastClaim := claim, claimRepeat := repeatAt } }
  | claiming (u : State) (position : Nat) (command : ∃ dt arb p f, c = .claimReceived dt arb p f)
    (unset : u.startup.station = .unset) (first : u.startup.straps.first = false)
    (range : 1 ≤ position ∧ position ≤ 8) :
    Move c s u { u with startup := { u.startup with station := .claiming, position := position } }
  | placed (u : State) (command : ∃ dt, c = .frameSent dt) (claiming : u.startup.station = .claiming) :
    Move c s u u.enterPlaced
  | stopped (u : State)
    (cause : (∃ dt arb p f, c = .claimReceived dt arb p f) ∧ u.startup.station = .unset
      ∨ c.content.isSome = true ∧ u.startup.station.operating = true) : Move c s u u.enterStopped
  | numberConfigured (u : State) (item v written : Nat) (command : ∃ dt params, c = .configure dt params)
    (isOpen : u.startup.station.open = true)
    (value : itemValue u.startup.straps.last u.startup.config.zoneLength item v = some written) :
    Move c s u (u.withConfig (u.startup.config.writeItem item written))
  | mapConfigured (u : State) (item : Nat) (map : PinMap) (command : ∃ dt params, c = .configure dt params)
    (isOpen : u.startup.station.open = true) :
    Move c s u
      ((u.withConfig (u.startup.config.writeMap item map)).formContributions (u.startup.config.mapLines item map))
  | closed (u : State) (command : ∃ dt params, c = .close dt params) (placed : u.startup.station = .placed) :
    Move c s u u.closeConfiguration
  | parked (u : State) (command : ∃ dt params, c = .park dt params) (tracking : u.startup.station = .tracking)
    (clear : u.clearToPark = true) : Move c s u u.enterParked
  | resumed (u : State) (command : ∃ dt params, c = .resume dt params) (parked : u.startup.station = .parked) :
    Move c s u u.resumeTracking
  | reset (u : State) (straps : Straps) (chainIn : Bool) (command : c = .hardwareReset straps chainIn) :
    Move c s u (u.afterReset straps chainIn)

/-- A sequence of moves. -/
abbrev Moves (c : Instr) (s : State) : State → State → Prop := Relation.ReflTransGen (Move c s)

end Sys2Proof.Machine
end


section
namespace Sys2Proof.Machine

/-! ### The slip code -/

/-- A filter step stays within the difference that it follows (R100). -/
theorem filterStep_within (delta : Int) (gain : Nat) (h : gain ≤ 16) :
    min 0 delta ≤ filterStep delta gain ∧ filterStep delta gain ≤ max 0 delta := by
  have hmag : (2 * (delta.natAbs * gain) + 16) / 32 ≤ delta.natAbs := by
    have := Nat.mul_le_mul_left delta.natAbs h
    omega
  unfold filterStep
  generalize (2 * (delta.natAbs * gain) + 16) / 32 = m at hmag
  rcases lt_trichotomy delta 0 with hd | rfl | hd
  · rw [Int.sign_eq_neg_one_of_neg hd]
    omega
  · simp
  · rw [Int.sign_eq_one_of_pos hd]
    omega

/-- A sample leaves the slip code within its range (R94, R99, R100). -/
theorem SlipLearner.sample_code (l : SlipLearner) (zoneLength gain : Nat) (source : SampleSource) (serial : Serial)
    (roll : Nat) (hg : gain ≤ 16) (hl : l.code ≤ Config.slipMax) :
    (l.sample zoneLength gain source serial roll).code ≤ Config.slipMax := by
  simp only [Config.slipMax] at hl ⊢
  have hcode : ((l.code : Int) + sampleStep (measuredSlip zoneLength roll) l.code gain).toNat ≤ 16384 := by
    have hstep := filterStep_within (clampSlip (measuredSlip zoneLength roll) - l.code) gain hg
    have hclamp : clampSlip (measuredSlip zoneLength roll) ≤ 16384 := by unfold clampSlip; omega
    rw [sampleStep]
    omega
  unfold SlipLearner.sample
  dsimp only
  split_ifs
  · exact hl
  · exact hcode
  · exact hcode
  · exact hl

/-! ### Guards -/

variable {c : Instr} {s u : State}

/-- Being awake depends on the station state alone. -/
theorem State.Awake.of_eq {v : State} (h : s.Awake u) (e : v.startup.station = u.startup.station) : s.Awake v :=
  fun q => e ▸ h q

/-- Tracking depends on the station state alone. -/
theorem State.Tracks.of_eq {v : State} (h : s.Tracks u) (e : v.startup.station = u.startup.station) : s.Tracks v :=
  fun q => e ▸ h q

/-- A part in TRACKING is not in STOPPED. -/
theorem State.Tracks.awake (h : s.Tracks u) : s.Awake u :=
  fun q => by rw [h q]; exact StationState.noConfusion

/-! ### The shared operations as moves -/

theorem elapse_moves (dt : Nat) : Moves c s u (u.elapse dt) := .single (.time u _)

theorem reach_moves (t : Nat) : Moves c s u (u.reach t) := .single (.time u _)

theorem answer_moves (code : Byte) (a : Answer) : Moves c s u (u.answer code a) := .single (.held u _)

theorem answerData_moves (code : Byte) (a : Answer) (data : List Byte) : Moves c s u (u.answerData code a data) :=
  .single (.held u _)

theorem post_moves (a : Action) (h : s.Awake u) : Moves c s u (u.post a) := .single (.posted u a h)

theorem postAll_moves (as : List Action) (h : s.Awake u) : Moves c s u (u.postAll as) := by
  induction as generalizing u with
  | nil => exact .refl
  | cons a as ih => exact (post_moves a h).trans (ih (u := u.post a) h)

theorem enqueue_moves (body : FrameBody) (age : Option AgeCount) (h : s.Awake u) : Moves c s u (u.enqueue body age) :=
  .single (.queued u body age h)

theorem offer_moves (serial : Serial) (kind : FeatureKind) (tag : Option SetTag) (h : s.Awake u) :
    Moves c s u (u.offer serial kind tag) := by
  unfold State.offer
  split_ifs
  · exact .refl
  · exact enqueue_moves _ _ h

theorem postReady_moves (tag : Option SetTag) (a : Action) (h : s.Awake u) : Moves c s u (u.postReady tag a) := by
  have hconsume : Moves c s u (u.consumeReady tag) := by
    cases tag with
    | none => exact .refl
    | some t => exact .single (.readyDropped u _ h List.filter_sublist)
  exact hconsume.trans (post_moves _ (h.of_eq (by simp)))

theorem withExpectations_moves (l : List Expectation) (h : s.Awake u) (sub : l.Sublist u.handoff.expectations) :
    Moves c s u (u.withExpectations l) := .single (.expectationsDropped u l h sub)

theorem withLastTake_moves (t : Option TakeRef) (h : s.Awake u) : Moves c s u (u.withLastTake t) :=
  .single (.handoff u _ h rfl)

theorem countDiscarded_moves (h : s.Awake u) : Moves c s u u.countDiscarded := .single (.handoff u _ h rfl)

theorem countUnmatched_moves (h : s.Awake u) : Moves c s u u.countUnmatched := .single (.handoff u _ h rfl)

theorem startStrobe_moves : Moves c s u u.startStrobe := .single (.strobe u _)

theorem withReceiver_moves (rx : Receiver) (idle : Nat) : Moves c s u (u.withReceiver rx idle) :=
  .single (.receiver u _ rfl rfl rfl rfl rfl (.inl rfl))

theorem countEarly_moves (r : FeatureRecord) (h : s.Awake u) : Moves c s u (u.countEarly r) := by
  unfold State.countEarly
  split_ifs
  · exact .single (.earlyTakes u _ h)
  · exact .refl

theorem makeSample_moves (source : SampleSource) (r : FeatureRecord) (w : TravelWord) (h : s.Awake u) :
    Moves c s u (u.makeSample source r w) :=
  .single (.slip u _ h fun range => SlipLearner.sample_code _ _ _ _ _ _ range.config.gain range.slip)

theorem offerTakeSample_moves (r : FeatureRecord) (age : Nat) (h : s.Awake u) :
    Moves c s u (u.offerTakeSample r age) := by
  unfold State.offerTakeSample
  split_ifs
  · exact makeSample_moves _ _ _ h
  · exact .refl

theorem offerExitSample_moves (r : FeatureRecord) (w : TravelWord) (h : s.Awake u) :
    Moves c s u (u.offerExitSample r w) := by
  unfold State.offerExitSample
  split_ifs
  · exact makeSample_moves _ _ _ h
  · exact .refl

/-! ### Stand sensing -/

/-- A part of a list behind an element found in it is a sublist. -/
theorem splitFirst_behind {α : Type} {p : α → Bool} {l ahead behind : List α} {x : α}
    (h : splitFirst p l = some (ahead, x, behind)) : behind.Sublist l := by
  rw [(splitFirst_some h).1]
  exact (List.sublist_cons_self x behind).trans (List.sublist_append_right ahead _)

/-- A record that enters on the own stand sensor is proper (R1, R60, R61, R62). -/
theorem biteRecord_proper (kind : FeatureKind) (serial : Serial) (tag : Option SetTag) (anon : Byte) (ev : SenseEvent)
    (htag : kind = .tail → tag = none) (hanon : serial ≠ 0#16 → anon = 0#8) :
    (biteRecord kind serial tag anon ev).Proper where
  tail := htag
  named := hanon
  learnable := by simp [biteRecord]
  passed := by simp [biteRecord]
  due := by simp [biteRecord]

theorem consumeExpected_moves (kind : FeatureKind) (h : s.Awake u) : Moves c s u (u.consumeExpected kind) := by
  unfold State.consumeExpected
  split
  · rename_i heq
    exact (withExpectations_moves _ h (splitFirst_behind heq)).trans (postAll_moves _ h)
  · exact .single (.handoff u _ h rfl)

theorem detectedTake_moves (kind : FeatureKind) (ev : SenseEvent) (h : s.Tracks u) (hz : s.Dated u ev.z) :
    Moves c s u (u.detectedTake kind ev) := by
  have proper : (biteRecord kind (u.takeSerial kind) (u.takeTag kind) (u.takeAnon kind) ev).Proper := by
    apply biteRecord_proper
    · rintro rfl
      unfold State.takeTag
      split <;> rfl
    · cases he : u.expected kind <;> simp [State.takeSerial, State.takeAnon, he]
  have entry : Moves c s (u.consumeExpected kind)
      ((u.consumeExpected kind).enterZone (biteRecord kind (u.takeSerial kind) (u.takeTag kind) (u.takeAnon kind) ev)) :=
    .single (.entered _ _ (h.of_eq (by simp)) proper (by simpa [State.Dated, biteRecord] using hz))
  exact (((((consumeExpected_moves kind h.awake).trans entry).trans (offer_moves _ _ _ (h.awake.of_eq (by simp)))).trans
    (enqueue_moves _ _ (h.awake.of_eq (by simp)))).trans (postReady_moves _ _ (h.awake.of_eq (by simp)))).trans
    (withLastTake_moves _ (h.awake.of_eq (by simp)))

end Sys2Proof.Machine
end


section
namespace Sys2Proof.Machine

variable {c : Instr} {s u : State}

/-! ### What a running timer or a detector in use tells of the station state -/

/-- A detector of LOAD that is in use stands in TRACKING (R37, R43). -/
theorem State.Quiet.tracking_of_load (q : s.Quiet) (h : s.sensing.load ≠ .dormant) : s.startup.station = .tracking := by
  by_contra ht
  by_cases hs : s.startup.station = .stopped
  · exact h (q.silenced hs).load
  · exact h (q.idle ht hs).load

/-- A detector of EXIT that is in use stands in TRACKING (R37, R43). -/
theorem State.Quiet.tracking_of_exit (q : s.Quiet) (h : s.sensing.exit ≠ .dormant) : s.startup.station = .tracking := by
  by_contra ht
  by_cases hs : s.startup.station = .stopped
  · exact h (q.silenced hs).exit
  · exact h (q.idle ht hs).exit

/-- A countdown runs in TRACKING alone (R46). -/
theorem State.Quiet.tracking_of_inhibit (q : s.Quiet) (h : s.sensing.inhibit ≠ none) : s.startup.station = .tracking := by
  by_contra ht
  by_cases hs : s.startup.station = .stopped
  · exact h (q.silenced hs).inhibit
  · exact h (q.idle ht hs).inhibit

/-- In STOPPED no timer runs and nothing is being sent (R14): what contradicts it tells that the part is awake. -/
theorem awake_of (h : s.Silenced → False) (e : u.startup.station = s.startup.station) : s.Awake u :=
  fun q hs => h (q.silenced (e ▸ hs))

/-- A part whose state is not STOPPED is awake. -/
theorem awake_of_ne (h : u.startup.station ≠ .stopped) : s.Awake u := fun _ => h

/-- A part in PLACED, TRACKING or PARKED is awake (R13). -/
theorem awake_of_operating (h : u.startup.station.operating = true) : s.Awake u :=
  fun _ hs => by simp [hs, StationState.operating] at h

/-! ### Stand sensing -/

theorem withLoad_moves (d : Detector) (h : s.Tracks u) : Moves c s u (u.withLoad d) := .single (.sensing u _ h id)

theorem withExit_moves (d : Detector) (h : s.Tracks u) (hd : u.sensing.exit ≠ .dormant) :
    Moves c s u (u.withExit d) := .single (.sensing u _ h fun e => absurd e hd)

theorem withBars_tail_moves (h : s.Awake u) : Moves c s u (u.withBars u.entry.bars.tail) :=
  .single (.barsDropped u _ h (List.tail_sublist _))

theorem postMismatch_moves (b : Bool) (serial : Serial) (kind : FeatureKind) (tag : Option SetTag) (h : s.Awake u) :
    Moves c s u (u.postMismatch b serial kind tag) := by
  unfold State.postMismatch
  split_ifs
  · exact post_moves _ h
  · exact .refl

theorem postUnannounced_moves (b : Bool) (h : s.Awake u) : Moves c s u (u.postUnannounced b) := by
  unfold State.postUnannounced
  split_ifs
  · exact post_moves _ h
  · exact .refl

theorem entryBite_moves (ev : SenseEvent) (h : s.Tracks u) (hz : s.Dated u ev.z) : Moves c s u (u.entryBite ev) := by
  have entry : Moves c s (u.withBars u.entry.bars.tail)
      ((u.withBars u.entry.bars.tail).enterZone (biteRecord .head u.frontSerial u.frontTag 0#8 ev)) :=
    .single (.entered _ _ (h.of_eq (by simp)) (biteRecord_proper _ _ _ _ _ nofun fun _ => rfl)
      (by simpa [State.Dated, biteRecord] using hz))
  exact ((((withBars_tail_moves h.awake).trans entry).trans (postMismatch_moves _ _ _ _ (h.awake.of_eq (by simp)))).trans
    (offer_moves _ _ _ (h.awake.of_eq (by simp)))).trans (postReady_moves _ _ (h.awake.of_eq (by simp)))

theorem entryRelease_moves (ev : SenseEvent) (h : s.Tracks u) (hz : s.Dated u ev.z) :
    Moves c s u (u.entryRelease ev) := by
  have entry : Moves c s u (u.enterZone (biteRecord .tail u.youngestHeadSerial none 0#8 ev)) :=
    .single (.entered _ _ h (biteRecord_proper _ _ _ _ _ (fun _ => rfl) fun _ => rfl) hz)
  exact (entry.trans (offer_moves _ _ _ (h.awake.of_eq (by simp)))).trans
    (postReady_moves _ _ (h.awake.of_eq (by simp)))

theorem entryJoin_moves (h : s.Tracks u) : Moves c s u u.entryJoin := by
  have proper : (entryJoinRecord u.frontSerial u.frontTag u.travel.w u.travel.z).Proper :=
    ⟨nofun, fun _ => rfl, nofun, nofun, fun h => by simp [entryJoinRecord] at h⟩
  have entry : Moves c s (u.withBars u.entry.bars.tail)
      ((u.withBars u.entry.bars.tail).enterZone (entryJoinRecord u.frontSerial u.frontTag u.travel.w u.travel.z)) :=
    .single (.entered _ _ (h.of_eq (by simp)) proper (.inl rfl))
  exact ((((((withBars_tail_moves h.awake).trans entry).trans
    (postMismatch_moves _ _ _ _ (h.awake.of_eq (by simp)))).trans
    (postUnannounced_moves _ (h.awake.of_eq (by simp)))).trans (offer_moves _ _ _ (h.awake.of_eq (by simp)))).trans
    (postReady_moves _ _ (h.awake.of_eq (by simp)))).trans startStrobe_moves

theorem remove_moves {ahead behind : List FeatureRecord} {r : FeatureRecord} (cls : HandedClass) (own : Action)
    (h : s.Awake u) (stands : u.zone.queue = ahead ++ r :: behind) : Moves c s u (u.remove ahead cls own behind) :=
  .single (.removed u ahead r behind cls own h stands)

theorem exitTake_moves (kind : FeatureKind) (ev : SenseEvent) (h : s.Awake u) : Moves c s u (u.exitTake kind ev) := by
  unfold State.exitTake
  split
  · exact post_moves _ h
  · rename_i ahead r behind heq
    exact ((countEarly_moves r h).trans (remove_moves _ _ (h.of_eq (by simp)) (r := r)
      (by simpa using (splitFirst_some heq).1))).trans (offerExitSample_moves _ _ (h.of_eq (by simp)))

theorem deliverLoad_moves (kind : FeatureKind) (ev : SenseEvent) (h : s.Tracks u) (hz : s.Dated u ev.z) :
    Moves c s u (u.deliverLoad kind ev) := by
  unfold State.deliverLoad
  split_ifs
  · exact entryBite_moves ev h hz
  · exact entryRelease_moves ev h hz
  · exact detectedTake_moves kind ev h hz

/-- Accepting the level of LOAD whose qualification was in progress when the command was taken. -/
theorem acceptLoad_moves (hst : u.startup.station = s.startup.station) (hl : u.sensing.load = s.sensing.load) :
    Moves c s u u.acceptLoad := by
  have tracks : u.sensing.load ≠ .dormant → s.Tracks u := fun hd q => hst ▸ q.tracking_of_load (hl ▸ hd)
  have accepted : ∀ (d : Detector) (kind : FeatureKind) (l : EdgeLatch) (t : Nat),
      (s.sensing.load = .qualRise l ∨ s.sensing.load = .qualFall l) → u.sensing.load ≠ .dormant →
      Moves c s u (((u.reach t).withLoad d).deliverLoad kind l.event) := fun d kind l t hq hd =>
    ((reach_moves t).trans (withLoad_moves d ((tracks hd).of_eq (by simp)))).trans
      (deliverLoad_moves _ _ ((tracks hd).of_eq (by simp)) (.inr (.inl ⟨l, hq, rfl⟩)))
  unfold State.acceptLoad
  split
  · rename_i l heq
    exact accepted _ _ l _ (.inl (hl ▸ heq)) (by simp [heq])
  · rename_i l heq
    exact accepted _ _ l _ (.inr (hl ▸ heq)) (by simp [heq])
  all_goals exact .refl

/-- Accepting the level of EXIT whose qualification was in progress when the command was taken. -/
theorem acceptExit_moves (hst : u.startup.station = s.startup.station) (he : u.sensing.exit = s.sensing.exit) :
    Moves c s u u.acceptExit := by
  have tracks : u.sensing.exit ≠ .dormant → s.Tracks u := fun hd q => hst ▸ q.tracking_of_exit (he ▸ hd)
  have accepted : ∀ (d : Detector) (kind : FeatureKind) (l : EdgeLatch) (t : Nat), u.sensing.exit ≠ .dormant →
      Moves c s u (((u.reach t).withExit d).exitTake kind l.event) := fun d kind l t hd =>
    ((reach_moves t).trans (withExit_moves d ((tracks hd).of_eq (by simp)) (by simpa using hd))).trans
      (exitTake_moves _ _ ((tracks hd).awake.of_eq (by simp)))
  unfold State.acceptExit
  split
  · rename_i l heq
    exact accepted _ _ l _ (by simp [heq])
  · rename_i l heq
    exact accepted _ _ l _ (by simp [heq])
  all_goals exact .refl

/-- The LOAD detector stands when a level on EXIT is accepted. -/
@[simp] theorem State.acceptExit_load (u : State) : u.acceptExit.sensing.load = u.sensing.load := by
  unfold State.acceptExit
  split <;> simp

/-- The EXIT detector stands when a level on LOAD is accepted. -/
@[simp] theorem State.acceptLoad_exit (u : State) : u.acceptLoad.sensing.exit = u.sensing.exit := by
  unfold State.acceptLoad
  split <;> simp [State.deliverLoad] <;> split_ifs <;> simp

/-- Settling LOAD accepts its level or does nothing (R41). -/
theorem State.settleLoad_cases (u : State) (moment : Nat) :
    u.settleLoad moment = u.acceptLoad ∨ u.settleLoad moment = u := by
  unfold State.settleLoad
  split_ifs <;> simp

/-- Settling EXIT accepts its level or does nothing (R41). -/
theorem State.settleExit_cases (u : State) (moment : Nat) :
    u.settleExit moment = u.acceptExit ∨ u.settleExit moment = u := by
  unfold State.settleExit
  split_ifs <;> simp

theorem settleLoad_moves (moment : Nat) (hst : u.startup.station = s.startup.station)
    (hl : u.sensing.load = s.sensing.load) : Moves c s u (u.settleLoad moment) := by
  rcases u.settleLoad_cases moment with h | h <;> rw [h]
  exact acceptLoad_moves hst hl

theorem settleExit_moves (moment : Nat) (hst : u.startup.station = s.startup.station)
    (he : u.sensing.exit = s.sensing.exit) : Moves c s u (u.settleExit moment) := by
  rcases u.settleExit_cases moment with h | h <;> rw [h]
  exact acceptExit_moves hst he

/-- Settling LOAD leaves the start-up unit and the EXIT detector. -/
@[simp] theorem State.settleLoad_frame (u : State) (moment : Nat) :
    (u.settleLoad moment).startup = u.startup ∧ (u.settleLoad moment).sensing.exit = u.sensing.exit
      ∧ (u.settleLoad moment).pins = u.pins := by
  rcases u.settleLoad_cases moment with h | h <;> rw [h] <;> simp

/-- Settling EXIT leaves the start-up unit and the LOAD detector. -/
@[simp] theorem State.settleExit_frame (u : State) (moment : Nat) :
    (u.settleExit moment).startup = u.startup ∧ (u.settleExit moment).sensing.load = u.sensing.load
      ∧ (u.settleExit moment).pins = u.pins := by
  rcases u.settleExit_cases moment with h | h <;> rw [h] <;> simp

theorem settleBoth_moves (moment : Nat) (hst : u.startup.station = s.startup.station)
    (hs : u.sensing = s.sensing) : Moves c s u (u.settleBoth moment) := by
  unfold State.settleBoth
  split_ifs
  · exact (settleExit_moves moment hst (by rw [hs])).trans (settleLoad_moves moment (by simpa using hst) (by simp [hs]))
  · exact (settleLoad_moves moment hst (by rw [hs])).trans (settleExit_moves moment (by simpa using hst) (by simp [hs]))

/-- A DORMANT detector of LOAD is not woken by settling (R43). -/
theorem State.settleLoad_dormant (u : State) (moment : Nat) (h : u.sensing.load = .dormant) :
    u.settleLoad moment = u := by
  rcases u.settleLoad_cases moment with e | e <;> rw [e]
  simp [State.acceptLoad, h]

/-- A DORMANT detector of EXIT is not woken by settling (R43). -/
theorem State.settleExit_dormant (u : State) (moment : Nat) (h : u.sensing.exit = .dormant) :
    u.settleExit moment = u := by
  rcases u.settleExit_cases moment with e | e <;> rw [e]
  simp [State.acceptExit, h]

theorem countFail_moves (b : Bool) (h : s.Awake u) : Moves c s u (u.countFail b) := by
  unfold State.countFail
  split_ifs
  · exact .single (.qualifyFail u _ h)
  · exact .refl

/-- A DORMANT detector takes no edge (R43). -/
theorem Detector.edge_dormant (level : Bool) (l : EdgeLatch) :
    Detector.dormant.edge level l = (.dormant, false) := by
  cases level <;> rfl

/-- A DORMANT detector of LOAD takes no edge (R43). -/
theorem State.loadDetects_dormant (u : State) (level : Bool) (h : u.sensing.load = .dormant) :
    u.loadDetects level = u := by
  have same : u.sensing.load.edge level u.edgeLatch = (u.sensing.load, false) := by
    rw [h, Detector.edge_dormant]
  simp [State.loadDetects, State.countFail, same]

/-- A DORMANT detector of EXIT takes no edge (R43). -/
theorem State.exitDetects_dormant (u : State) (level : Bool) (h : u.sensing.exit = .dormant) :
    u.exitDetects level = u := by
  have same : u.sensing.exit.edge level u.edgeLatch = (u.sensing.exit, false) := by
    rw [h, Detector.edge_dormant]
  simp [State.exitDetects, State.countFail, same]

theorem loadDetects_moves (level : Bool) (h : u.sensing.load ≠ .dormant → s.Tracks u) :
    Moves c s u (u.loadDetects level) := by
  by_cases hd : u.sensing.load = .dormant
  · rw [u.loadDetects_dormant level hd]
  · unfold State.loadDetects
    split_ifs
    · exact .refl
    · exact (withLoad_moves _ (h hd)).trans (countFail_moves _ ((h hd).awake.of_eq rfl))

theorem exitDetects_moves (level : Bool) (h : u.sensing.exit ≠ .dormant → s.Tracks u) :
    Moves c s u (u.exitDetects level) := by
  by_cases hd : u.sensing.exit = .dormant
  · rw [u.exitDetects_dormant level hd]
  · exact (withExit_moves _ (h hd) hd).trans (countFail_moves _ ((h hd).awake.of_eq rfl))

theorem loadEdge_moves (dt : Nat) (level : Bool) {t : State} (h : execLoadEdge dt level s = .next t) :
    Moves c s s t := by
  obtain rfl := Host.Outcome.next.inj h
  split_ifs
  · exact elapse_moves dt
  · generalize hw : (s.settleLoad (s.elapse dt).now).reach (s.elapse dt).now = w
    have toW : Moves c s s w := hw ▸ (settleLoad_moves _ rfl rfl).trans (reach_moves _)
    have tracks : w.sensing.load ≠ .dormant → s.Tracks w := fun hd q => by
      have := q.tracking_of_load fun e => hd (by rw [← hw]; simp [s.settleLoad_dormant _ e, e])
      rw [← hw]
      simpa using this
    exact (toW.trans (.single (.pins w { w.pins with load := level } rfl rfl))).trans
      (loadDetects_moves _ fun hd => (tracks hd).of_eq rfl)

theorem exitEdge_moves (dt : Nat) (level : Bool) {t : State} (h : execExitEdge dt level s = .next t) :
    Moves c s s t := by
  obtain rfl := Host.Outcome.next.inj h
  split_ifs
  · exact elapse_moves dt
  · generalize hw : (s.settleExit (s.elapse dt).now).reach (s.elapse dt).now = w
    have toW : Moves c s s w := hw ▸ (settleExit_moves _ rfl rfl).trans (reach_moves _)
    have tracks : w.sensing.exit ≠ .dormant → s.Tracks w := fun hd q => by
      have := q.tracking_of_exit fun e => hd (by rw [← hw]; simp [s.settleExit_dormant _ e, e])
      rw [← hw]
      simpa using this
    exact (toW.trans (.single (.pins w { w.pins with exit := level } rfl rfl))).trans
      (exitDetects_moves _ fun hd => (tracks hd).of_eq rfl)

theorem inhibitExpires_moves (h : s.Tracks u) : Moves c s u u.inhibitExpires := by
  have stops : Moves c s u
      { u with
        sensing :=
          { u.sensing with inhibit := none, load := u.sensing.load.afterInhibit u.pins.load u.headExpected } } :=
    .single (.sensing u _ h id)
  unfold State.inhibitExpires
  dsimp only
  split_ifs
  · exact stops.trans (deliverLoad_moves _ _ h (.inl rfl))
  · exact stops

theorem inhibitFor_moves (ms : Nat) (h : s.Tracks u) : Moves c s u (u.inhibitFor ms) := by
  have starts : ∀ n, Moves c s u (u.startInhibit n) := fun n => .single (.sensing u _ h id)
  unfold State.inhibitFor
  split_ifs
  · exact (inhibitExpires_moves h).trans (answer_moves _ _)
  · exact answer_moves _ _
  · exact (starts _).trans (answer_moves _ _)
  · exact (starts _).trans (answer_moves _ _)

end Sys2Proof.Machine
end


section
namespace Sys2Proof.Machine

variable {c : Instr} {s u : State}

/-! ### A counted pulse -/

/-- What the comparison makes of a HEAD or TAIL: nothing, DUE, or OVERDUE and not learnable (R8, R90). -/
theorem compareFeature_cases (th : Thresholds) (p : Nat) (r : FeatureRecord) :
    compareFeature th p r = r
      ∨ (r.state = .travelling ∧ compareFeature th p r = { r with state := .due })
      ∨ ((r.state = .travelling ∨ r.state = .due)
          ∧ compareFeature th p r = { r with state := .overdue, learnable := false }) := by
  by_cases ht : r.state = .travelling ∧ th.endOfZone ≤ p
  · by_cases hl : th.late ≤ p
    · exact .inr (.inr ⟨.inl ht.1, by simp [compareFeature, ht, hl]⟩)
    · exact .inr (.inl ⟨ht.1, by simp [compareFeature, ht, hl]⟩)
  · by_cases hl : r.state = .due ∧ th.late ≤ p
    · exact .inr (.inr ⟨.inr hl.1, by simp [compareFeature, hl]⟩)
    · exact .inl (by simp [compareFeature, ht, hl])

/-- A proper HEAD or TAIL stays proper when it is compared (R1, R8, R90). -/
theorem compareFeature_proper (th : Thresholds) (p : Nat) (r : FeatureRecord) (hk : r.kind ≠ .join) (h : r.Proper) :
    (compareFeature th p r).Proper := by
  obtain ⟨htail, hnamed, hlearn, hpassed, hdue⟩ := h
  rcases compareFeature_cases th p r with heq | ⟨-, heq⟩ | ⟨-, heq⟩ <;> rw [heq]
  · exact ⟨htail, hnamed, hlearn, hpassed, hdue⟩
  · exact ⟨htail, hnamed, fun h => ⟨(hlearn h).1, (hlearn h).2.1, nofun⟩, nofun, fun _ => hk⟩
  · exact ⟨htail, hnamed, nofun, nofun, fun _ => hk⟩

/-- A HEAD that is compared counts for THREAD as it did (R11). -/
theorem compareFeature_untakenHead (th : Thresholds) (p : Nat) (r : FeatureRecord) :
    (compareFeature th p r).untakenHead = r.untakenHead := by
  rcases compareFeature_cases th p r with heq | ⟨hst, heq⟩ | ⟨hst | hst, heq⟩ <;> rw [heq]
  all_goals simp only [FeatureRecord.untakenHead, hst]; rfl

/-- Comparing a HEAD or TAIL leaves its name and its place. -/
@[simp] theorem compareFeature_same (th : Thresholds) (p : Nat) (r : FeatureRecord) :
    (compareFeature th p r).serial = r.serial ∧ (compareFeature th p r).kind = r.kind
      ∧ (compareFeature th p r).tag = r.tag ∧ (compareFeature th p r).anon = r.anon
      ∧ (compareFeature th p r).entryW = r.entryW ∧ (compareFeature th p r).entryZ = r.entryZ
      ∧ (compareFeature th p r).origin = r.origin := by
  rcases compareFeature_cases th p r with heq | ⟨-, heq⟩ | ⟨-, heq⟩ <;> simp [heq]

theorem compareHeadOrTail_moves (ahead : List FeatureRecord) (r : FeatureRecord) (behind : List FeatureRecord)
    (h : s.Awake u) (stands : u.zone.queue = ahead ++ r :: behind) (hk : r.kind ≠ .join) :
    Moves c s u (u.compareHeadOrTail ahead r behind) := by
  have compared : Moves c s u
      (u.withZone (ahead ++ compareFeature u.zone.thresholds (r.position u.travel.z) r :: behind)) :=
    .single (.changed u ahead r _ behind h stands (by simp) (by simp) (compareFeature_untakenHead ..) (by simp)
      (compareFeature_proper _ _ _ hk))
  unfold State.compareHeadOrTail
  dsimp only
  split_ifs
  · exact (compared.trans (post_moves _ (h.of_eq (by simp)))).trans (.single (.overdue _ (h.of_eq (by simp))))
  · exact compared.trans (post_moves _ (h.of_eq (by simp)))
  · exact compared

/-- The queue after a HEAD or TAIL has been compared. -/
@[simp] theorem State.compareHeadOrTail_queue (u : State) (ahead : List FeatureRecord) (r : FeatureRecord)
    (behind : List FeatureRecord) :
    (u.compareHeadOrTail ahead r behind).zone.queue
      = ahead ++ compareFeature u.zone.thresholds (r.position u.travel.z) r :: behind := by
  unfold State.compareHeadOrTail
  dsimp only
  split_ifs <;> simp

/-- What comparing a HEAD or TAIL leaves unchanged. -/
@[simp] theorem State.compareHeadOrTail_frame (u : State) (ahead : List FeatureRecord) (r : FeatureRecord)
    (behind : List FeatureRecord) :
    (u.compareHeadOrTail ahead r behind).now = u.now
      ∧ (u.compareHeadOrTail ahead r behind).pins = u.pins
      ∧ (u.compareHeadOrTail ahead r behind).startup = u.startup
      ∧ (u.compareHeadOrTail ahead r behind).travel = u.travel
      ∧ (u.compareHeadOrTail ahead r behind).sensing = u.sensing
      ∧ (u.compareHeadOrTail ahead r behind).zone.earlyTakes = u.zone.earlyTakes
      ∧ (u.compareHeadOrTail ahead r behind).zone.thresholds = u.zone.thresholds
      ∧ (u.compareHeadOrTail ahead r behind).handoff = u.handoff
      ∧ (u.compareHeadOrTail ahead r behind).slip = u.slip
      ∧ (u.compareHeadOrTail ahead r behind).entry = u.entry
      ∧ (u.compareHeadOrTail ahead r behind).lines.hostTrip = u.lines.hostTrip
      ∧ (u.compareHeadOrTail ahead r behind).lines.signals = u.lines.signals
      ∧ (u.compareHeadOrTail ahead r behind).mill.rx = u.mill.rx
      ∧ (u.compareHeadOrTail ahead r behind).mill.ownTail = u.mill.ownTail
      ∧ (u.compareHeadOrTail ahead r behind).mill.idle = u.mill.idle
      ∧ (u.compareHeadOrTail ahead r behind).mill.sof = u.mill.sof
      ∧ (u.compareHeadOrTail ahead r behind).mill.flight = u.mill.flight
      ∧ (u.compareHeadOrTail ahead r behind).mill.rxErrors = u.mill.rxErrors
      ∧ (u.compareHeadOrTail ahead r behind).mill.overlong = u.mill.overlong
      ∧ (u.compareHeadOrTail ahead r behind).mill.unknownKinds = u.mill.unknownKinds
      ∧ (u.compareHeadOrTail ahead r behind).mill.txErrors = u.mill.txErrors
      ∧ (u.compareHeadOrTail ahead r behind).port.held = u.port.held
      ∧ (u.compareHeadOrTail ahead r behind).port.ready = u.port.ready
      ∧ (u.compareHeadOrTail ahead r behind).port.attnEnable = u.port.attnEnable
      ∧ (u.compareHeadOrTail ahead r behind).pending = u.pending
      ∧ (u.compareHeadOrTail ahead r behind).strobe = u.strobe
      ∧ (u.compareHeadOrTail ahead r behind).mill.queue = u.mill.queue := by
  unfold State.compareHeadOrTail
  dsimp only
  split_ifs <;> simp

/-- What a JOIN passing the end of the zone leaves unchanged. -/
@[simp] theorem State.passJoin_frame (u : State) (r : FeatureRecord) :
    (u.passJoin r).now = u.now
      ∧ (u.passJoin r).pins = u.pins
      ∧ (u.passJoin r).startup = u.startup
      ∧ (u.passJoin r).travel = u.travel
      ∧ (u.passJoin r).sensing = u.sensing
      ∧ (u.passJoin r).zone.earlyTakes = u.zone.earlyTakes
      ∧ (u.passJoin r).zone.thresholds = u.zone.thresholds
      ∧ (u.passJoin r).handoff = u.handoff
      ∧ (u.passJoin r).slip = u.slip
      ∧ (u.passJoin r).entry = u.entry
      ∧ (u.passJoin r).lines.hostTrip = u.lines.hostTrip
      ∧ (u.passJoin r).lines.signals = u.lines.signals
      ∧ (u.passJoin r).mill.rx = u.mill.rx
      ∧ (u.passJoin r).mill.ownTail = u.mill.ownTail
      ∧ (u.passJoin r).mill.idle = u.mill.idle
      ∧ (u.passJoin r).mill.sof = u.mill.sof
      ∧ (u.passJoin r).mill.flight = u.mill.flight
      ∧ (u.passJoin r).mill.rxErrors = u.mill.rxErrors
      ∧ (u.passJoin r).mill.overlong = u.mill.overlong
      ∧ (u.passJoin r).mill.unknownKinds = u.mill.unknownKinds
      ∧ (u.passJoin r).mill.txErrors = u.mill.txErrors
      ∧ (u.passJoin r).port.held = u.port.held
      ∧ (u.passJoin r).port.ready = u.port.ready
      ∧ (u.passJoin r).port.attnEnable = u.port.attnEnable
      ∧ (u.passJoin r).pending = u.pending
      ∧ (u.passJoin r).strobe = u.strobe
      ∧ (u.passJoin r).zone.queue = u.zone.queue
      ∧ (u.passJoin r).zone.overdueFlag = u.zone.overdueFlag
      ∧ (u.passJoin r).lines = u.lines
      ∧ (u.passJoin r).mill.slots = u.mill.slots := by
  simp [State.passJoin]

/-- What a JOIN lapsing leaves unchanged, and the queue behind it. -/
@[simp] theorem State.lapseJoin_frame (u : State) (ahead : List FeatureRecord) (r : FeatureRecord)
    (behind : List FeatureRecord) :
    (u.lapseJoin ahead r behind).now = u.now
      ∧ (u.lapseJoin ahead r behind).pins = u.pins
      ∧ (u.lapseJoin ahead r behind).startup = u.startup
      ∧ (u.lapseJoin ahead r behind).travel = u.travel
      ∧ (u.lapseJoin ahead r behind).sensing = u.sensing
      ∧ (u.lapseJoin ahead r behind).zone.earlyTakes = u.zone.earlyTakes
      ∧ (u.lapseJoin ahead r behind).zone.thresholds = u.zone.thresholds
      ∧ (u.lapseJoin ahead r behind).handoff = u.handoff
      ∧ (u.lapseJoin ahead r behind).slip = u.slip
      ∧ (u.lapseJoin ahead r behind).entry = u.entry
      ∧ (u.lapseJoin ahead r behind).lines.hostTrip = u.lines.hostTrip
      ∧ (u.lapseJoin ahead r behind).lines.signals = u.lines.signals
      ∧ (u.lapseJoin ahead r behind).mill.rx = u.mill.rx
      ∧ (u.lapseJoin ahead r behind).mill.ownTail = u.mill.ownTail
      ∧ (u.lapseJoin ahead r behind).mill.idle = u.mill.idle
      ∧ (u.lapseJoin ahead r behind).mill.sof = u.mill.sof
      ∧ (u.lapseJoin ahead r behind).mill.flight = u.mill.flight
      ∧ (u.lapseJoin ahead r behind).mill.rxErrors = u.mill.rxErrors
      ∧ (u.lapseJoin ahead r behind).mill.overlong = u.mill.overlong
      ∧ (u.lapseJoin ahead r behind).mill.unknownKinds = u.mill.unknownKinds
      ∧ (u.lapseJoin ahead r behind).mill.txErrors = u.mill.txErrors
      ∧ (u.lapseJoin ahead r behind).port.held = u.port.held
      ∧ (u.lapseJoin ahead r behind).port.ready = u.port.ready
      ∧ (u.lapseJoin ahead r behind).port.attnEnable = u.port.attnEnable
      ∧ (u.lapseJoin ahead r behind).pending = u.pending
      ∧ (u.lapseJoin ahead r behind).strobe = u.strobe
      ∧ (u.lapseJoin ahead r behind).zone.overdueFlag = u.zone.overdueFlag
      ∧ (u.lapseJoin ahead r behind).zone.queue = behind := by
  simp [State.lapseJoin]

/-- What a JOIN being cut leaves unchanged, and the queue behind it. -/
@[simp] theorem State.cutJoin_frame (u : State) (ahead : List FeatureRecord) (r : FeatureRecord)
    (behind : List FeatureRecord) :
    (u.cutJoin ahead r behind).now = u.now
      ∧ (u.cutJoin ahead r behind).pins = u.pins
      ∧ (u.cutJoin ahead r behind).startup = u.startup
      ∧ (u.cutJoin ahead r behind).travel = u.travel
      ∧ (u.cutJoin ahead r behind).sensing = u.sensing
      ∧ (u.cutJoin ahead r behind).zone.earlyTakes = u.zone.earlyTakes
      ∧ (u.cutJoin ahead r behind).zone.thresholds = u.zone.thresholds
      ∧ (u.cutJoin ahead r behind).handoff = u.handoff
      ∧ (u.cutJoin ahead r behind).slip = u.slip
      ∧ (u.cutJoin ahead r behind).entry = u.entry
      ∧ (u.cutJoin ahead r behind).lines.hostTrip = u.lines.hostTrip
      ∧ (u.cutJoin ahead r behind).lines.signals = u.lines.signals
      ∧ (u.cutJoin ahead r behind).mill.rx = u.mill.rx
      ∧ (u.cutJoin ahead r behind).mill.ownTail = u.mill.ownTail
      ∧ (u.cutJoin ahead r behind).mill.idle = u.mill.idle
      ∧ (u.cutJoin ahead r behind).mill.sof = u.mill.sof
      ∧ (u.cutJoin ahead r behind).mill.flight = u.mill.flight
      ∧ (u.cutJoin ahead r behind).mill.rxErrors = u.mill.rxErrors
      ∧ (u.cutJoin ahead r behind).mill.overlong = u.mill.overlong
      ∧ (u.cutJoin ahead r behind).mill.unknownKinds = u.mill.unknownKinds
      ∧ (u.cutJoin ahead r behind).mill.txErrors = u.mill.txErrors
      ∧ (u.cutJoin ahead r behind).port.held = u.port.held
      ∧ (u.cutJoin ahead r behind).port.ready = u.port.ready
      ∧ (u.cutJoin ahead r behind).port.attnEnable = u.port.attnEnable
      ∧ (u.cutJoin ahead r behind).pending = u.pending
      ∧ (u.cutJoin ahead r behind).mill.queue = u.mill.queue
      ∧ (u.cutJoin ahead r behind).mill.txOverflows = u.mill.txOverflows
      ∧ (u.cutJoin ahead r behind).zone.overdueFlag = u.zone.overdueFlag
      ∧ (u.cutJoin ahead r behind).zone.queue = behind := by
  simp [State.cutJoin]

/-- What the comparisons of a counted pulse leave unchanged. -/
@[simp] theorem State.compareZone_frame (u : State) (ahead rest : List FeatureRecord) :
    (u.compareZone ahead rest).now = u.now
      ∧ (u.compareZone ahead rest).pins = u.pins
      ∧ (u.compareZone ahead rest).startup = u.startup
      ∧ (u.compareZone ahead rest).travel = u.travel
      ∧ (u.compareZone ahead rest).sensing = u.sensing
      ∧ (u.compareZone ahead rest).zone.earlyTakes = u.zone.earlyTakes
      ∧ (u.compareZone ahead rest).zone.thresholds = u.zone.thresholds
      ∧ (u.compareZone ahead rest).handoff = u.handoff
      ∧ (u.compareZone ahead rest).slip = u.slip
      ∧ (u.compareZone ahead rest).entry = u.entry
      ∧ (u.compareZone ahead rest).lines.hostTrip = u.lines.hostTrip
      ∧ (u.compareZone ahead rest).lines.signals = u.lines.signals
      ∧ (u.compareZone ahead rest).mill.rx = u.mill.rx
      ∧ (u.compareZone ahead rest).mill.ownTail = u.mill.ownTail
      ∧ (u.compareZone ahead rest).mill.idle = u.mill.idle
      ∧ (u.compareZone ahead rest).mill.sof = u.mill.sof
      ∧ (u.compareZone ahead rest).mill.flight = u.mill.flight
      ∧ (u.compareZone ahead rest).mill.rxErrors = u.mill.rxErrors
      ∧ (u.compareZone ahead rest).mill.overlong = u.mill.overlong
      ∧ (u.compareZone ahead rest).mill.unknownKinds = u.mill.unknownKinds
      ∧ (u.compareZone ahead rest).mill.txErrors = u.mill.txErrors
      ∧ (u.compareZone ahead rest).port.held = u.port.held
      ∧ (u.compareZone ahead rest).port.ready = u.port.ready
      ∧ (u.compareZone ahead rest).port.attnEnable = u.port.attnEnable
      ∧ (u.compareZone ahead rest).pending = u.pending := by
  induction rest generalizing u ahead with
  | nil => simp [State.compareZone]
  | cons r behind ih =>
    unfold State.compareZone
    dsimp only
    split_ifs <;> simp [ih]

theorem lapseJoin_moves (ahead : List FeatureRecord) (r : FeatureRecord) (behind : List FeatureRecord)
    (h : s.Awake u) (stands : u.zone.queue = ahead ++ r :: behind) : Moves c s u (u.lapseJoin ahead r behind) := by
  unfold State.lapseJoin
  exact (remove_moves _ _ h stands).trans (enqueue_moves _ _ (h.of_eq (by simp)))

theorem cutJoin_moves (ahead : List FeatureRecord) (r : FeatureRecord) (behind : List FeatureRecord)
    (h : s.Awake u) (stands : u.zone.queue = ahead ++ r :: behind) : Moves c s u (u.cutJoin ahead r behind) :=
  (remove_moves _ _ h stands).trans startStrobe_moves

/-- A JOIN that passes the end of the zone stays proper (R1, R83). -/
theorem FeatureRecord.Proper.passed_join {r : FeatureRecord} (h : r.Proper) (hk : r.kind = .join) :
    ({ r with state := .passed } : FeatureRecord).Proper :=
  ⟨h.tail, h.named, fun hl => absurd (hk ▸ (h.learnable hl).1) nofun, fun _ => hk, fun h => by simp at h⟩

theorem compareZone_moves (ahead rest : List FeatureRecord) (h : s.Awake u)
    (stands : u.zone.queue = ahead ++ rest) : Moves c s u (u.compareZone ahead rest) := by
  induction rest generalizing u ahead with
  | nil => exact .refl
  | cons r behind ih =>
    have skip : ∀ v : State, s.Awake v → v.zone.queue = ahead ++ r :: behind →
        Moves c s v (v.compareZone (ahead ++ [r]) behind) := fun v hv hq => ih _ hv (by simpa using hq)
    unfold State.compareZone
    dsimp only
    split_ifs with hj hlast hcut hlapse hpass hpass
    · exact (cutJoin_moves _ _ _ h stands).trans (ih _ (h.of_eq (by simp)) (by simp))
    · exact skip u h stands
    · have passed : Moves c s u (u.passJoin r) := enqueue_moves _ _ h
      have lapsed : Moves c s u ((u.passJoin r).lapseJoin ahead r behind) :=
        passed.trans (lapseJoin_moves _ _ _ (h.of_eq (by simp)) (by simpa))
      exact lapsed.trans (ih _ (h.of_eq (by simp)) (by simp))
    · have lapsed : Moves c s u (u.lapseJoin ahead r behind) := lapseJoin_moves _ _ _ h stands
      exact lapsed.trans (ih _ (h.of_eq (by simp)) (by simp))
    · have passed : Moves c s u (u.passJoin r) := enqueue_moves _ _ h
      have renamed : Moves c s (u.passJoin r)
          ((u.passJoin r).withZone (ahead ++ { r with state := .passed } :: behind)) :=
        .single (.changed _ ahead r _ behind (h.of_eq (by simp)) (by simpa) rfl rfl
          (by simp [FeatureRecord.untakenHead, hj]) (.inl rfl) (fun hr => hr.passed_join hj))
      exact (passed.trans renamed).trans (ih _ (h.of_eq (by simp)) (by simp))
    · have stays : u.withZone (ahead ++ r :: behind) = u := by rw [← stands]; rfl
      rw [stays]
      exact skip u h stands
    · exact (compareHeadOrTail_moves _ _ _ h stands hj).trans (ih _ (h.of_eq (by simp)) (by simp))

theorem countPulse_moves (command : ∃ dt, c = .encoderPulse dt) (h : u.startup.station = .tracking) :
    Moves c s u u.countPulse := by
  have awake : s.Awake u := awake_of_ne (by rw [h]; exact StationState.noConfusion)
  unfold State.countPulse State.zonePulse
  refine (Relation.ReflTransGen.single (Move.pulse u command h)).trans ?_
  generalize hv : ({ u with travel := u.travel.pulse u.startup.config.pitch u.slip.code u.now } : State) = v
  have av : s.Awake v := awake.of_eq (by rw [← hv])
  exact (compareZone_moves [] v.zone.queue av rfl).trans (.single (.ceiling _ (av.of_eq (by simp))))

end Sys2Proof.Machine
end


section
namespace Sys2Proof.Machine

variable {c : Instr} {s u : State}

/-! ### Received frames -/

theorem appendExpectation_moves (e : Expectation) (h : s.Tracks u) : Moves c s u (u.appendExpectation e) := by
  unfold State.appendExpectation
  split_ifs with hdup hroom htag
  · exact .refl
  · exact (Relation.ReflTransGen.single (.expected u e h (by simpa using hdup) hroom)).trans
      (post_moves _ (h.awake.of_eq (by simp)))
  · exact .single (.expected u e h (by simpa using hdup) hroom)
  · exact post_moves _ h.awake

theorem offerActs_moves (serial : Serial) (kind tag : Byte) (h : s.Tracks u) :
    Moves c s u (u.offerActs serial kind tag) := by
  unfold State.offerActs
  split
  · exact countDiscarded_moves h.awake
  · exact appendExpectation_moves _ h

theorem takeFinds_stands {serial : Serial} {kind : FeatureKind} {ahead behind : List FeatureRecord} {r : FeatureRecord}
    (h : u.takeFinds serial kind = some (ahead, r, behind)) : u.zone.queue = ahead ++ r :: behind := by
  unfold State.takeFinds at h
  split_ifs at h <;> exact (splitFirst_some h).1

theorem takeActs_moves (serial : Serial) (kind : FeatureKind) (anon : Byte) (age : Nat) (h : s.Awake u) :
    Moves c s u (u.takeActs serial kind anon age) := by
  unfold State.takeActs
  split
  · exact countUnmatched_moves h
  · rename_i ahead r behind heq
    dsimp only
    generalize hown : handedAction u.travel.z (if serial = 0#16 then .matched else .direct) r.early r = own
    have early : s.Awake (u.countEarly r) := h.of_eq (by simp)
    have awake : s.Awake ((u.countEarly r).remove ahead .implied own behind) := h.of_eq (by simp)
    have removed : Moves c s u ((u.countEarly r).remove ahead .implied own behind) :=
      (countEarly_moves r h).trans (remove_moves _ _ early (by simpa using takeFinds_stands heq))
    split_ifs
    · exact (removed.trans (enqueue_moves _ _ awake)).trans (offerTakeSample_moves _ _ (awake.of_eq (by simp)))
    · exact removed.trans (offerTakeSample_moves _ _ awake)

theorem takeArrives_moves (arb : Arbitration) (serial : Serial) (kind anon : Byte) (age : Nat) (h : s.Awake u) :
    Moves c s u (u.takeArrives arb serial kind anon age) := by
  unfold State.takeArrives
  split_ifs
  · exact .refl
  · split
    · exact countDiscarded_moves h
    · exact takeActs_moves _ _ _ _ h
  · exact .refl

theorem consumeJoin_moves (serial : Serial) (h : s.Awake u) : Moves c s u (u.consumeJoin serial) := by
  unfold State.consumeJoin
  split
  · exact .refl
  · rename_i heq
    exact (withExpectations_moves _ h (splitFirst_behind heq)).trans (postAll_moves _ h)

theorem joinArrives_moves (origin : Origin) (serial : Serial) (tag : Option SetTag) (up : Bool) (overrun age : Nat)
    (h : s.Tracks u) (hage : age ≤ 65535) : Moves c s u (u.joinArrives origin serial tag up overrun age) := by
  have proper : (u.joinRecord origin serial tag age).Proper :=
    ⟨nofun, fun _ => rfl, nofun, nofun, fun h => by simp [State.joinRecord] at h⟩
  have entry : Moves c s (u.consumeJoin serial)
      ((u.consumeJoin serial).enterZone (u.joinRecord origin serial tag age)) :=
    .single (.entered _ _ (h.of_eq (by simp)) proper (.inr (.inr ⟨age, hage, by simp [State.joinRecord]⟩)))
  exact ((((((consumeJoin_moves serial h.awake).trans entry).trans
    (offer_moves _ _ _ (h.awake.of_eq (by simp)))).trans (postReady_moves _ _ (h.awake.of_eq (by simp)))).trans
    startStrobe_moves).trans (enqueue_moves _ _ (h.awake.of_eq (by simp)))).trans
    (withLastTake_moves _ (h.awake.of_eq (by simp)))

theorem lapseActs_moves (serial : Serial) (tag : Option SetTag) (up : Bool) (overrun age : Nat)
    (h : s.Tracks u) (hage : age ≤ 65535) : Moves c s u (u.lapseActs serial tag up overrun age) := by
  unfold State.lapseActs
  split_ifs
  · exact .refl
  · exact joinArrives_moves _ _ _ _ _ _ h hage

theorem bindActs_moves (serial : Serial) (kind tag anon : Byte) (h : s.Awake u) :
    Moves c s u (u.bindActs serial kind tag anon) := by
  unfold State.bindActs
  split
  · exact .refl
  · rename_i k heq
    split_ifs with hunusable
    · exact .refl
    · split
      · exact .refl
      · rename_i ahead r behind hsplit
        split_ifs with hbad
        · exact .refl
        · have hk : r.kind = k := by
            by_contra hk
            exact hbad (.inl hk)
          have hother : ∀ q ∈ ahead ++ behind, q.kind = k → q.serial ≠ serial := by
            intro q hq hqk hqs
            exact hbad (.inr (List.any_eq_true.mpr ⟨q, hq, by simp [hqk, hqs]⟩))
          have bound : Moves c s u
              (u.withZone (ahead ++ { r with serial := serial, tag := tagForKind k tag, anon := 0#8 } :: behind)) :=
            .single (.changed u ahead r _ behind h (splitFirst_some hsplit).1 rfl rfl rfl
              (.inr fun q hq hqk => hother q hq (hqk.trans hk))
              fun hr => ⟨fun ht => by simp [tagForKind, hk.symm.trans ht], fun _ => rfl, hr.learnable, hr.passed, hr.due⟩)
          exact bound.trans (post_moves _ (h.of_eq (by simp)))

theorem refreshFrom_moves (arb : Arbitration) : Moves c s u (u.refreshFrom arb) := by
  unfold State.refreshFrom
  split_ifs with hop hup hdown
  · have h : s.Awake u := awake_of_operating hop
    unfold State.refreshUp
    dsimp only
    split_ifs
    · exact (Relation.ReflTransGen.single (.handoff u _ h rfl)).trans (post_moves _ h)
    · exact .single (.handoff u _ h rfl)
  · have h : s.Awake u := awake_of_operating hop
    unfold State.refreshDown
    dsimp only
    split_ifs
    · exact (Relation.ReflTransGen.single (.handoff u _ h rfl)).trans (post_moves _ h)
    · exact .single (.handoff u _ h rfl)
  · exact .refl
  · exact .refl

theorem reportActs_moves (last : Option TakeRef) (h : s.Awake u) : Moves c s u (u.reportActs last) := by
  unfold State.reportActs
  split
  · exact .refl
  · split_ifs
    · exact .refl
    · split
      · exact .refl
      · rename_i heq
        exact (countEarly_moves _ h).trans
          (remove_moves _ _ (h.of_eq (by simp)) (by simpa using (splitFirst_some heq).1))

theorem paceArrives_moves (arb : Arbitration) (head : PaceHead) (report : Option (Option TakeRef)) (h : s.Awake u) :
    Moves c s u (u.paceArrives arb head report) := by
  have ht : s.Awake (u.refreshFrom arb) := h.of_eq (by simp)
  have refreshed : Moves c s u (u.refreshFrom arb) := refreshFrom_moves arb
  unfold State.paceArrives
  dsimp only
  generalize u.refreshFrom arb = t at ht refreshed ⊢
  split
  · split
    · exact refreshed.trans (countDiscarded_moves ht)
    · exact refreshed.trans (.single (.handoff t _ ht rfl))
  · split
    · split
      · exact refreshed.trans (countDiscarded_moves ht)
      · rename_i last _
        exact (refreshed.trans
          (.single (.handoff t { t.handoff with down := t.handoff.down.pace head last } ht rfl))).trans
          (reportActs_moves _ (ht.of_eq rfl))
    · exact refreshed

/-- A frame of another station (R138, R140, R141): a clash, or what the frame's own handling does. -/
theorem receive_moves (dt : Nat) (arb : Arbitration) (handle : State → State) (hc : c.content.isSome = true)
    (hh : ∀ u : State, u.startup = s.startup → Moves c s u (handle u)) : Moves c s s (s.receive dt arb handle) := by
  unfold State.receive
  dsimp only
  split_ifs with hreading hclash
  · have hop : s.startup.station.operating = true := hclash.1
    have settled : Moves c s s (((s.elapse dt).settleBoth (s.elapse dt).now).withReceiver .hunt 6) :=
      ((elapse_moves dt).trans (settleBoth_moves (s := s) _ rfl rfl)).trans (withReceiver_moves _ _)
    exact (settled.trans (post_moves _ (awake_of_operating (by simpa)))).trans
      (.single (.stopped _ (.inr ⟨hc, by simpa⟩)))
  · exact ((elapse_moves dt).trans (withReceiver_moves _ _)).trans (hh _ rfl)
  · exact elapse_moves dt

/-- A frame that acts in PLACED, TRACKING and PARKED, with the refresh behind it (R13, R80, R141). -/
theorem handled_moves (arb : Arbitration) (acts : State → State) (h : s.Awake u → Moves c s u (acts u)) :
    Moves c s u (u.handled arb acts) := by
  unfold State.handled
  split_ifs with hop
  · exact (h (awake_of_operating hop)).trans (refreshFrom_moves arb)
  · exact .refl

/-- A hand-off frame from own−1: in TRACKING it acts, in PLACED and PARKED it is discarded and counted (R93). -/
theorem fromAbove_moves (arb : Arbitration) (acts : State → State) (h : s.Tracks u → Moves c s u (acts u)) :
    Moves c s u (u.fromAbove arb acts) := by
  unfold State.fromAbove
  split_ifs
  · split
    · rename_i hst
      exact h fun _ => hst
    · rename_i hst
      exact countDiscarded_moves (awake_of_ne (by simp [hst]))
    · rename_i hst
      exact countDiscarded_moves (awake_of_ne (by simp [hst]))
    all_goals exact .refl
  · exact .refl

/-! ### The start-up unit -/

theorem enterClaiming_moves (position : Nat) (command : ∃ dt arb p f, c = .claimReceived dt arb p f)
    (hst : u.startup.station = .unset) (hfirst : u.startup.straps.first = false)
    (range : 1 ≤ position ∧ position ≤ 8) : Moves c s u (u.enterClaiming position) := by
  have chosen := Relation.ReflTransGen.single (Move.claiming (s := s) u position command hst hfirst range)
  generalize hv : ({ u with startup := { u.startup with station := .claiming, position := position } } : State) = v
    at chosen
  have claims : u.enterClaiming position = v.enqueue v.claimBody none := by rw [← hv]; rfl
  rw [claims]
  exact chosen.trans (enqueue_moves _ _ (awake_of_ne (by simp [← hv])))

theorem choosePosition_moves (claimed : Nat) (command : ∃ dt arb p f, c = .claimReceived dt arb p f)
    (hst : u.startup.station = .unset) (hfirst : u.startup.straps.first = false) :
    Moves c s u (u.choosePosition claimed) := by
  unfold State.choosePosition
  split_ifs with hpos
  · exact enterClaiming_moves _ command hst hfirst ⟨by omega, hpos⟩
  · exact (post_moves _ (awake_of_ne (by simp [hst]))).trans (.single (.stopped _ (.inl ⟨command, by simpa using hst⟩)))

theorem claimArrives_moves (arb : Arbitration) (position flags : Byte)
    (command : ∃ dt arb p f, c = .claimReceived dt arb p f) : Moves c s u (u.claimArrives arb position flags) := by
  have heard : u.startup.station ≠ .stopped → Moves c s u (u.hearClaim arb.position flags) := fun h =>
    .single (.heard u _ _ (awake_of_ne h))
  have operating : u.startup.station ≠ .stopped → Moves c s u
      (if u.fromDownstream arb then (u.hearClaim arb.position flags).stopClaimRepeat
       else u.hearClaim arb.position flags) := fun h => by
    split_ifs
    · have awake : s.Awake (u.hearClaim arb.position flags) := awake_of_ne (by simpa using h)
      exact ((heard h).tail (.heard _ _ none awake)).tail (.places _ _ awake (List.filter_sublist.map _))
    · exact heard h
  unfold State.claimArrives
  split
  · exact .refl
  · split
    · rename_i hst
      dsimp only
      split_ifs with hchain
      · exact (heard (by simp [hst])).trans
          (choosePosition_moves _ command (by simpa using hst) (by simpa using hchain.1))
      · exact heard (by simp [hst])
    · rename_i hst
      exact heard (by simp [hst])
    · rename_i hst
      exact operating (by simp [hst])
    · rename_i hst
      exact operating (by simp [hst])
    · rename_i hst
      exact operating (by simp [hst])
    · exact .refl

/-! ### Attempts -/

/-- The slot that stands first is the slot of its kind (R142). -/
theorem Slots.first_get {slots : Slots} {kind : LineKind} {slot : Slot} (h : slots.first = some (kind, slot)) :
    slots.get kind = slot := by
  have later : ∀ (best : Option (LineKind × Slot)) (k : LineKind),
      (∀ k' b, best = some (k', b) → slots.get k' = b) →
      ∀ k' b, earlierSlot best k (slots.get k) = some (k', b) → slots.get k' = b := by
    intro best k hbest k' b hk
    unfold earlierSlot at hk
    split at hk
    · exact hbest k' b hk
    · split at hk
      · cases hk; rfl
      · split at hk
        · cases hk; rfl
        · exact hbest k' b hk
  exact later _ .drop (later _ .ask (later _ .veto (later none .raise nofun))) kind slot h

theorem detectSof_moves : Moves c s u u.detectSof := .single (.receiver u _ rfl rfl rfl rfl rfl (.inr rfl))

/-- Marking the frame of a place as in flight leaves the frames (R144). -/
theorem markFlying_body (routine : Bool) (queue : List QueuedFrame) :
    (markFlying routine queue).map QueuedFrame.body = queue.map QueuedFrame.body := by
  unfold markFlying
  induction queue with
  | nil => rfl
  | cons f queue ih =>
    unfold modifyFirst
    split_ifs
    · rfl
    · simp [ih]

theorem beginAttempt_moves (h : s.Awake u) (free : u.mill.flight = none) : Moves c s u u.beginAttempt := by
  unfold State.beginAttempt
  split
  · rename_i kind slot heq
    obtain rfl := Slots.first_get heq
    exact (detectSof_moves (u := u)).tail (.slotLaunched _ kind _ _ (h.of_eq rfl) free)
  · split
    · rename_i f heq
      exact ((detectSof_moves (u := u)).tail (.placeLaunched _ f.body _ (h.of_eq rfl) free)).tail
        (.places _ (markFlying f.body.routine u.mill.queue) (h.of_eq rfl) (by
          rw [markFlying_body]
          exact List.Sublist.refl _))
    · exact .refl

/-- The attempt of a frame that has a place ends, and the frames in the places are some of those that stood there. -/
theorem landed_moves {body : FrameBody} {wire : List Bool} (h : s.Awake u)
    (flying : u.mill.flight = some { source := .place body, wire := wire }) (q : List QueuedFrame)
    (sub : (q.map QueuedFrame.body).Sublist (u.mill.queue.map QueuedFrame.body)) :
    Moves c s u { u with mill := { u.mill with queue := q, flight := none } } := by
  have waits : Moves c s u { u with mill := { u.mill with queue := q } } := .single (.places u q h sub)
  exact waits.tail (.placeLanded { u with mill := { u.mill with queue := q } } body wire h flying)

theorem dropFlying_moves {body : FrameBody} {wire : List Bool} (h : s.Awake u)
    (flying : u.mill.flight = some { source := .place body, wire := wire }) : Moves c s u u.dropFlying :=
  landed_moves h flying _ (List.filter_sublist.map _)

theorem keepFlying_moves {body : FrameBody} {wire : List Bool} (h : s.Awake u)
    (flying : u.mill.flight = some { source := .place body, wire := wire }) : Moves c s u u.keepFlying :=
  landed_moves h flying _ (by simp [Function.comp_def])

theorem flightSent_moves (f : Flight) (command : ∃ dt, c = .frameSent dt) (h : s.Awake u)
    (flying : u.mill.flight = some f) : Moves c s u (u.flightSent f) := by
  obtain ⟨source, wire⟩ := f
  cases source with
  | place body =>
    unfold State.flightSent
    dsimp only
    split_ifs with hclaim
    · exact (dropFlying_moves h flying).tail (.placed _ command (by simpa using hclaim.2))
    · exact dropFlying_moves h flying
  | slot kind m filledAt => exact .single (.slotSent u kind m filledAt wire h flying)

theorem flightLost_moves (f : Flight) (h : s.Awake u) (flying : u.mill.flight = some f) :
    Moves c s u (u.flightLost f) := by
  obtain ⟨source, wire⟩ := f
  cases source with
  | place body => exact keepFlying_moves h flying
  | slot kind m filledAt => exact .single (.slotReturned u kind m filledAt wire h flying)

theorem flightFailed_moves (f : Flight) (h : s.Awake u) (flying : u.mill.flight = some f) :
    Moves c s u (u.flightFailed f) := by
  obtain ⟨source, wire⟩ := f
  cases source with
  | place body =>
    unfold State.flightFailed
    dsimp only
    split_ifs
    · exact (dropFlying_moves h flying).trans (enqueue_moves _ _ (h.of_eq (by simp)))
    · exact dropFlying_moves h flying
  | slot kind m filledAt => exact .single (.slotReturned u kind m filledAt wire h flying)

theorem rejectFrame_moves (v : Verdict) : Moves c s u (u.rejectFrame v) := by
  cases v with
  | incomplete => exact .refl
  | valid _ _ => exact .refl
  | _ => exact .single (.receiver u _ rfl rfl rfl rfl rfl (.inl rfl))

/-! ### Port commands -/

theorem whenAllowed_moves (code : Byte) (allowed : Bool) (body : State → State)
    (h : allowed = true → Moves c s u (body u)) : Moves c s u (u.whenAllowed code allowed body) := by
  unfold State.whenAllowed
  split_ifs with ha
  · exact h ha
  · exact answer_moves _ _

theorem announceBar_moves (serial : Serial) (tag joined : Byte) (h : s.Awake u) :
    Moves c s u (u.announceBar serial tag joined) := by
  unfold State.announceBar
  split
  · exact answer_moves _ _
  · split_ifs with hzero hdup hroom
    · exact answer_moves _ _
    · exact answer_moves _ _
    · exact (Relation.ReflTransGen.single (.barAdded u _ h (by simpa using hdup) hroom)).trans (answer_moves _ _)
    · exact answer_moves _ _

theorem withdrawBar_moves (serial : Serial) (h : s.Awake u) : Moves c s u (u.withdrawBar serial) := by
  unfold State.withdrawBar
  split_ifs
  · exact answer_moves _ _
  · exact (Relation.ReflTransGen.single (.barsDropped u _ h List.filter_sublist)).trans (answer_moves _ _)
  · exact answer_moves _ _

theorem readyTag_moves (tag : Byte) (h : s.Awake u) : Moves c s u (u.readyTag tag) := by
  unfold State.readyTag
  split
  · exact answer_moves _ _
  · split_ifs with hdup hroom
    · exact answer_moves _ _
    · exact (Relation.ReflTransGen.single (.readyAdded u _ h (by simpa using hdup) hroom)).trans (answer_moves _ _)
    · exact answer_moves _ _

theorem unreadyTag_moves (tag : Byte) (h : s.Awake u) : Moves c s u (u.unreadyTag tag) := by
  unfold State.unreadyTag
  split
  · exact answer_moves _ _
  · split_ifs
    · exact (Relation.ReflTransGen.single (.readyDropped u _ h List.filter_sublist)).trans (answer_moves _ _)
    · exact answer_moves _ _

theorem configureNumber_moves (item v : Nat) (command : ∃ dt params, c = .configure dt params)
    (isOpen : u.startup.station.open = true) : Moves c s u (u.configureNumber item v) := by
  unfold State.configureNumber
  split
  · exact answer_moves _ _
  · rename_i written heq
    exact (Relation.ReflTransGen.single (.numberConfigured u item v written command isOpen heq)).trans
      (answer_moves _ _)

theorem configureMap_moves (item : Nat) (lines inversion : Byte) (command : ∃ dt params, c = .configure dt params)
    (isOpen : u.startup.station.open = true) : Moves c s u (u.configureMap item lines inversion) := by
  unfold State.configureMap
  split
  · exact answer_moves _ _
  · exact (Relation.ReflTransGen.single (.mapConfigured u item _ command isOpen)).trans (answer_moves _ _)

theorem setSlip_moves (value : Nat) (h : s.Awake u) : Moves c s u (u.setSlip value) :=
  (Relation.ReflTransGen.single
    (.slip u { u.slip with code := min value Config.slipMax } h fun _ => Nat.min_le_right _ _)).trans (answer_moves _ _)

end Sys2Proof.Machine
end


section
namespace Sys2Proof.Machine

variable {c : Instr} {s t : State}

/-! ### Every command as moves -/

/-- In TRACKING the part is not in STOPPED. -/
theorem tracks_of_eq {u : State} (h : u.startup.station = .tracking) : s.Tracks u := fun _ => h

theorem paceTimerExpiry_moves (h : execPaceTimerExpiry s = .next t) : Moves c s s t := by
  unfold execPaceTimerExpiry at h
  split at h
  · obtain rfl := Host.Outcome.next.inj h
    exact .refl
  · rename_i deadline hp
    obtain rfl := Host.Outcome.next.inj h
    have awake : s.Awake (s.reach deadline) := awake_of (fun q => by simp [q.pace] at hp) (by simp)
    exact ((reach_moves deadline).trans (enqueue_moves (u := s.reach deadline) _ none awake)).tail
      (.handoff _ _ (awake.of_eq (by simp)) rfl)

theorem restartClaimRepeat_moves {u : State} (h : s.Awake u) : Moves c s u u.restartClaimRepeat := by
  unfold State.restartClaimRepeat
  split_ifs
  · exact .single (.heard u u.startup.lastClaim _ h)
  · exact .refl

theorem silenceTimerExpiry_moves (side : Side) (h : execSilenceTimerExpiry side s = .next t) : Moves c s s t := by
  cases side with
  | upstream =>
    unfold execSilenceTimerExpiry at h
    dsimp only at h
    split at h
    · obtain rfl := Host.Outcome.next.inj h
      exact .refl
    · rename_i deadline hp
      obtain rfl := Host.Outcome.next.inj h
      have awake : s.Awake (s.reach deadline) := awake_of (fun q => by simp [q.up] at hp) (by simp)
      exact ((reach_moves deadline).tail (.handoff _ { s.handoff with up := s.handoff.up.goSilent } awake rfl)).trans
        (post_moves _ awake)
  | downstream =>
    unfold execSilenceTimerExpiry at h
    dsimp only at h
    split at h
    · obtain rfl := Host.Outcome.next.inj h
      exact .refl
    · rename_i deadline hp
      obtain rfl := Host.Outcome.next.inj h
      have awake : s.Awake (s.reach deadline) := awake_of (fun q => by simp [q.down] at hp) (by simp)
      exact (((reach_moves deadline).tail
        (.handoff _ { s.handoff with down := s.handoff.down.goSilent } awake rfl)).trans
        (post_moves _ awake)).trans (restartClaimRepeat_moves (awake.of_eq (by simp)))

theorem claimRepeatExpiry_moves (h : execClaimRepeatExpiry s = .next t) : Moves c s s t := by
  unfold execClaimRepeatExpiry at h
  split at h
  · obtain rfl := Host.Outcome.next.inj h
    exact .refl
  · rename_i deadline hp
    obtain rfl := Host.Outcome.next.inj h
    have awake : s.Awake (s.reach deadline) := awake_of (fun q => by simp [q.claimRepeat] at hp) (by simp)
    dsimp only
    split_ifs
    · exact (reach_moves deadline).tail (.heard _ _ _ awake)
    · exact ((reach_moves deadline).trans (enqueue_moves _ none awake)).tail (.heard _ _ _ (awake.of_eq (by simp)))

/-- In STOPPED no veto window runs (R14). -/
theorem State.Silenced.windowEnd (q : s.Silenced) (n : Fin 8) : (s.lines.line.get n).windowEnd = none := by
  have bit := Eight.mask_getLsbD (fun l : TrainLine => l.windowEnd.isSome) s.lines.line n
  rw [q.windows] at bit
  simpa using bit.symm

theorem vetoWindowExpiry_moves (line : Fin 8) (h : execVetoWindowExpiry line s = .next t) : Moves c s s t := by
  unfold execVetoWindowExpiry at h
  split at h
  · obtain rfl := Host.Outcome.next.inj h
    exact .refl
  · rename_i deadline hp
    obtain rfl := Host.Outcome.next.inj h
    have awake : s.Awake (s.reach deadline) := awake_of (fun q => by simp [q.windowEnd] at hp) (by simp)
    exact (reach_moves deadline).tail (.windowsEnd _ _ awake)

theorem biteInhibitExpiry_moves (h : execBiteInhibitExpiry s = .next t) : Moves c s s t := by
  unfold execBiteInhibitExpiry at h
  split at h
  · obtain rfl := Host.Outcome.next.inj h
    exact .refl
  · rename_i deadline hp
    obtain rfl := Host.Outcome.next.inj h
    exact (reach_moves deadline).trans (inhibitExpires_moves fun q => q.tracking_of_inhibit (by simp [hp]))

theorem stallExpiry_moves (h : execStallExpiry s = .next t) : Moves c s s t := by
  unfold execStallExpiry at h
  split_ifs at h with hr
  · obtain rfl := Host.Outcome.next.inj h
    have awake : s.Awake (s.reach (s.travel.lastPulse + Config.stalled)) :=
      awake_of (fun q => by simp [q.stall] at hr) (by simp)
    exact (reach_moves _).tail (.stall _ awake)
  · obtain rfl := Host.Outcome.next.inj h
    exact .refl

theorem strobeEnd_moves (h : execStrobeEnd s = .next t) : Moves c s s t := by
  unfold execStrobeEnd at h
  split at h
  · obtain rfl := Host.Outcome.next.inj h
    exact .refl
  · obtain rfl := Host.Outcome.next.inj h
    exact (reach_moves _).tail (.strobe _ none)

theorem startOfFrame_moves (dt : Nat) (h : execStartOfFrame dt s = .next t) : Moves c s s t := by
  obtain rfl := Host.Outcome.next.inj h
  split
  · exact (elapse_moves dt).trans detectSof_moves
  · exact (elapse_moves dt).trans (withReceiver_moves _ _)
  · exact (elapse_moves dt).trans (withReceiver_moves _ _)

theorem lineIdle_moves (dt : Nat) (h : execLineIdle dt s = .next t) : Moves c s s t := by
  obtain rfl := Host.Outcome.next.inj h
  split
  · exact (elapse_moves dt).trans (withReceiver_moves _ _)
  · exact elapse_moves dt
  · split_ifs
    · exact (elapse_moves dt).tail (.receiver _ _ rfl rfl rfl rfl rfl (.inl rfl))
    · exact elapse_moves dt

/-- An attempt under way tells that the part is awake (R14). -/
theorem awake_of_flying {u : State} {f : Flight} (hf : s.mill.flight = some f)
    (e : u.startup.station = s.startup.station) : s.Awake u := awake_of (fun q => by simp [q.flight] at hf) e

theorem frameSent_moves (dt : Nat) (hc : c = .frameSent dt) (h : execFrameSent dt s = .next t) : Moves c s s t := by
  obtain rfl := Host.Outcome.next.inj h
  split
  · exact elapse_moves dt
  · rename_i f hf
    have reads : Moves c s (s.elapse dt) ((s.elapse dt).readOn f) := .single (.receiver _ _ rfl rfl rfl rfl rfl (.inl rfl))
    exact ((elapse_moves dt).trans reads).trans
      (flightSent_moves f ⟨dt, hc⟩ (awake_of_flying hf (by simp)) (by simpa using hf))

theorem arbitrationLost_moves (dt : Nat) (h : execArbitrationLost dt s = .next t) : Moves c s s t := by
  obtain rfl := Host.Outcome.next.inj h
  split
  · exact elapse_moves dt
  · rename_i f hf
    split_ifs
    · exact ((elapse_moves dt).trans (withReceiver_moves _ _)).trans
        (flightLost_moves f (awake_of_flying hf (by simp)) (by simpa using hf))
    · exact elapse_moves dt

theorem bitError_moves (dt bit : Nat) (h : execBitError dt bit s = .next t) : Moves c s s t := by
  obtain rfl := Host.Outcome.next.inj h
  split
  · exact elapse_moves dt
  · rename_i f hf
    split_ifs
    · have counted : Moves c s s
          { (s.elapse dt).withReceiver .hunt (idleAfterBitError f.wire bit) with
            mill :=
              { ((s.elapse dt).withReceiver .hunt (idleAfterBitError f.wire bit)).mill with
                txErrors := satInc16 s.mill.txErrors } } :=
        ((elapse_moves dt).trans (withReceiver_moves _ _)).tail
          (.txCounts _ (satInc16 s.mill.txErrors) s.mill.txOverflows (awake_of_flying hf (by simp)))
      exact counted.trans (flightFailed_moves f (awake_of_flying hf rfl) hf)
    · exact elapse_moves dt

theorem attempt_moves (dt : Nat) (h : execAttempt dt s = .next t) : Moves c s s t := by
  obtain rfl := Host.Outcome.next.inj h
  split_ifs with hsend
  · obtain ⟨hsends, -, hfree⟩ := hsend
    have awake : s.Awake (s.elapse dt) := awake_of_ne (fun hs => by
      rw [hs] at hsends
      exact absurd hsends (by decide))
    exact (elapse_moves dt).trans (beginAttempt_moves awake hfree)
  · exact elapse_moves dt

end Sys2Proof.Machine
end


section
namespace Sys2Proof.Machine

variable {c : Instr} {s t : State}

/-! ### Port commands, and every command -/

/-- A port command that the station state may refuse (R157). -/
theorem allowed_moves {dt : Nat} {code : Byte} {allowed : Bool} {body : State → State}
    (hb : allowed = true → Moves c s (s.elapse dt) (body (s.elapse dt)))
    (h : (Host.Outcome.next ((s.elapse dt).whenAllowed code allowed body) : Host.Outcome State Fault Refusal) = .next t) :
    Moves c s s t :=
  Host.Outcome.next.inj h ▸ (elapse_moves dt).trans (whenAllowed_moves code allowed body hb)

/-- A port command that is answered without another effect (R157). -/
theorem refused_moves {dt : Nat} {code : Byte} {a : Answer}
    (h : (Host.Outcome.next ((s.elapse dt).answer code a) : Host.Outcome State Fault Refusal) = .next t) :
    Moves c s s t :=
  Host.Outcome.next.inj h ▸ (elapse_moves dt).trans (answer_moves code a)

/-- PLACED, TRACKING and PARKED are not STOPPED. -/
theorem operating_ne_stopped {st : StationState} (h : st.operating = true) : st ≠ .stopped := by
  rintro rfl
  exact absurd h (by decide)

/-- TRACKING or PARKED, as the dispatch tests it, is not STOPPED. -/
theorem tracked_ne_stopped {st : StationState} (h : (st == .tracking || st == .parked) = true) : st ≠ .stopped := by
  rintro rfl
  exact absurd h (by decide)

/-- ANNOUNCE and WITHDRAW are taken in TRACKING and PARKED alone (R105, R106). -/
theorem State.entryListOpen_ne_stopped (h : s.entryListOpen = true) : s.startup.station ≠ .stopped :=
  tracked_ne_stopped (Bool.and_eq_true_iff.mp h).2

theorem configure_moves (dt : Nat) (params : List Byte) (h : execConfigure dt params s = .next t) :
    Moves (.configure dt params) s s t := by
  match params, h with
  | [item, v3, v2, v1, v0], h =>
    refine allowed_moves (fun ha => ?_) h
    split_ifs
    · exact configureMap_moves _ _ _ ⟨_, _, rfl⟩ ha
    · exact configureNumber_moves _ _ ⟨_, _, rfl⟩ ha
  | [], h => exact refused_moves h
  | [_], h => exact refused_moves h
  | [_, _], h => exact refused_moves h
  | [_, _, _], h => exact refused_moves h
  | [_, _, _, _], h => exact refused_moves h
  | _ :: _ :: _ :: _ :: _ :: _ :: _, h => exact refused_moves h

theorem close_moves (dt : Nat) (params : List Byte) (h : execClose dt params s = .next t) :
    Moves (.close dt params) s s t := by
  cases params with
  | nil => exact allowed_moves (fun ha => .single (.closed _ ⟨_, _, rfl⟩ (by simpa using ha))) h
  | cons => exact refused_moves h

theorem announce_moves (dt : Nat) (params : List Byte) (h : execAnnounce dt params s = .next t) : Moves c s s t := by
  match params, h with
  | [hi, lo, tag, joined], h =>
    exact allowed_moves (fun ha => announceBar_moves _ _ _ (awake_of_ne (State.entryListOpen_ne_stopped ha))) h
  | [], h => exact refused_moves h
  | [_], h => exact refused_moves h
  | [_, _], h => exact refused_moves h
  | [_, _, _], h => exact refused_moves h
  | _ :: _ :: _ :: _ :: _ :: _, h => exact refused_moves h

theorem withdraw_moves (dt : Nat) (params : List Byte) (h : execWithdraw dt params s = .next t) : Moves c s s t := by
  match params, h with
  | [hi, lo], h =>
    exact allowed_moves (fun ha => withdrawBar_moves _ (awake_of_ne (State.entryListOpen_ne_stopped ha))) h
  | [], h => exact refused_moves h
  | [_], h => exact refused_moves h
  | _ :: _ :: _ :: _, h => exact refused_moves h

theorem ready_moves (dt : Nat) (params : List Byte) (h : execReady dt params s = .next t) : Moves c s s t := by
  match params, h with
  | [tag], h => exact allowed_moves (fun ha => readyTag_moves _ (awake_of_ne (operating_ne_stopped ha))) h
  | [], h => exact refused_moves h
  | _ :: _ :: _, h => exact refused_moves h

theorem unready_moves (dt : Nat) (params : List Byte) (h : execUnready dt params s = .next t) : Moves c s s t := by
  match params, h with
  | [tag], h => exact allowed_moves (fun ha => unreadyTag_moves _ (awake_of_ne (operating_ne_stopped ha))) h
  | [], h => exact refused_moves h
  | _ :: _ :: _, h => exact refused_moves h

theorem trip_moves (dt : Nat) (params : List Byte) (h : execTrip dt params s = .next t) : Moves c s s t := by
  cases params with
  | nil =>
    exact allowed_moves (fun ha => (Relation.ReflTransGen.single
      (.hostTrip _ true (awake_of_ne (operating_ne_stopped ha)))).trans (answer_moves _ _)) h
  | cons => exact refused_moves h

theorem clearTrip_moves (dt : Nat) (params : List Byte) (h : execClearTrip dt params s = .next t) : Moves c s s t := by
  cases params with
  | nil =>
    exact allowed_moves (fun ha => (Relation.ReflTransGen.single
      (.hostTrip _ false (awake_of_ne (operating_ne_stopped ha)))).trans (answer_moves _ _)) h
  | cons => exact refused_moves h

theorem signal_moves (dt : Nat) (params : List Byte) (h : execSignal dt params s = .next t) : Moves c s s t := by
  match params, h with
  | [set, clear], h =>
    exact allowed_moves (fun ha => .single (.signals _ set clear (awake_of_ne (operating_ne_stopped ha)))) h
  | [], h => exact refused_moves h
  | [_], h => exact refused_moves h
  | _ :: _ :: _ :: _, h => exact refused_moves h

theorem park_moves (dt : Nat) (params : List Byte) (h : execPark dt params s = .next t) :
    Moves (.park dt params) s s t := by
  cases params with
  | nil =>
    refine allowed_moves (fun ha => ?_) h
    unfold State.park
    split_ifs with hclear
    · exact (Relation.ReflTransGen.single (.parked _ ⟨_, _, rfl⟩ (by simpa using ha) hclear)).trans (answer_moves _ _)
    · exact answer_moves _ _
  | cons => exact refused_moves h

theorem resume_moves (dt : Nat) (params : List Byte) (h : execResume dt params s = .next t) :
    Moves (.resume dt params) s s t := by
  cases params with
  | nil => exact allowed_moves (fun ha => .single (.resumed _ ⟨_, _, rfl⟩ (by simpa using ha))) h
  | cons => exact refused_moves h

theorem clearTrack_moves (dt : Nat) (params : List Byte) (h : execClearTrack dt params s = .next t) : Moves c s s t := by
  cases params with
  | nil => exact allowed_moves (fun ha => .single (.cleared _ (awake_of_ne (tracked_ne_stopped ha)))) h
  | cons => exact refused_moves h

theorem inhibit_moves (dt : Nat) (params : List Byte) (h : execInhibit dt params s = .next t) : Moves c s s t := by
  match params, h with
  | [hi, lo], h =>
    obtain rfl := Host.Outcome.next.inj h
    unfold State.whenAllowed
    split_ifs with ha hms
    · exact (elapse_moves dt).trans (inhibitFor_moves _ (tracks_of_eq (by simpa using ha)))
    · exact ((settleLoad_moves _ rfl rfl).trans (reach_moves _)).trans
        (inhibitFor_moves _ (tracks_of_eq (by simpa using ha)))
    · exact (elapse_moves dt).trans (answer_moves _ _)
  | [], h => exact refused_moves h
  | [_], h => exact refused_moves h
  | _ :: _ :: _ :: _, h => exact refused_moves h

theorem slip_moves (dt : Nat) (params : List Byte) (h : execSlip dt params s = .next t) : Moves c s s t := by
  match params, h with
  | [hi, lo], h => exact allowed_moves (fun ha => setSlip_moves _ (awake_of_ne (tracked_ne_stopped ha))) h
  | [], h => exact refused_moves h
  | [_], h => exact refused_moves h
  | _ :: _ :: _ :: _, h => exact refused_moves h

theorem attnEnable_moves (dt : Nat) (params : List Byte) (h : execAttnEnable dt params s = .next t) : Moves c s s t := by
  cases params with
  | nil =>
    exact allowed_moves (fun ha => (Relation.ReflTransGen.single
      (.attention _ true (awake_of_ne (by simpa using ha)))).trans (answer_moves _ _)) h
  | cons => exact refused_moves h

theorem attnDisable_moves (dt : Nat) (params : List Byte) (h : execAttnDisable dt params s = .next t) :
    Moves c s s t := by
  cases params with
  | nil =>
    exact allowed_moves (fun ha => (Relation.ReflTransGen.single
      (.attention _ false (awake_of_ne (by simpa using ha)))).trans (answer_moves _ _)) h
  | cons => exact refused_moves h

theorem clearCounts_moves (dt : Nat) (params : List Byte) (h : execClearCounts dt params s = .next t) :
    Moves c s s t := by
  cases params with
  | nil =>
    exact allowed_moves (fun ha => (Relation.ReflTransGen.single
      (.countsCleared _ (awake_of_ne (by simpa using ha)))).trans (answer_moves _ _)) h
  | cons => exact refused_moves h

theorem readActions_moves (dt : Nat) (params : List Byte) (h : execReadActions dt params s = .next t) :
    Moves c s s t := by
  cases params with
  | nil => exact Host.Outcome.next.inj h ▸ (elapse_moves dt).tail (.read _)
  | cons => exact refused_moves h

theorem readZone_moves (dt : Nat) (params : List Byte) (h : execReadZone dt params s = .next t) : Moves c s s t := by
  cases params with
  | nil => exact Host.Outcome.next.inj h ▸ (elapse_moves dt).trans (answerData_moves _ _ _)
  | cons => exact refused_moves h

theorem readStation_moves (dt : Nat) (params : List Byte) (h : execReadStation dt params s = .next t) :
    Moves c s s t := by
  cases params with
  | nil => exact Host.Outcome.next.inj h ▸ (elapse_moves dt).trans (answerData_moves _ _ _)
  | cons => exact refused_moves h

theorem unknownCommand_moves (dt : Nat) (code : Byte) (h : execUnknownCommand dt code s = .next t) : Moves c s s t := by
  obtain rfl := Host.Outcome.next.inj h
  split_ifs
  · exact elapse_moves dt
  · exact (elapse_moves dt).trans (answer_moves _ _)

theorem blockCheckFailed_moves (dt : Nat) (bytes : List Byte) (h : execBlockCheckFailed dt bytes s = .next t) :
    Moves c s s t := by
  obtain rfl := Host.Outcome.next.inj h
  split
  · exact (elapse_moves dt).trans (answer_moves _ _)
  · exact elapse_moves dt
  · exact elapse_moves dt

theorem encoderPulse_moves (dt : Nat) (h : execEncoderPulse dt s = .next t) : Moves (.encoderPulse dt) s s t := by
  obtain rfl := Host.Outcome.next.inj h
  split_ifs with ht
  · exact (elapse_moves dt).trans (countPulse_moves ⟨dt, rfl⟩ ht)
  · exact elapse_moves dt

theorem joinStrobe_moves (dt : Nat) (h : execJoinStrobe dt s = .next t) : Moves c s s t := by
  obtain rfl := Host.Outcome.next.inj h
  split_ifs with ht
  · exact (elapse_moves dt).trans (entryJoin_moves (tracks_of_eq ht.2))
  · exact elapse_moves dt

theorem siginChange_moves (dt : Nat) (input : SignalInput) (level : Bool)
    (h : execSiginChange dt input level s = .next t) : Moves c s s t := by
  obtain rfl := Host.Outcome.next.inj h
  split_ifs
  · exact elapse_moves dt
  · exact (elapse_moves dt).tail (.sigin _ input level)

theorem frameInvalid_moves (dt : Nat) (bits : List Bool) (h : execFrameInvalid dt bits s = .next t) :
    Moves c s s t := by
  obtain rfl := Host.Outcome.next.inj h
  split_ifs
  · exact (elapse_moves dt).trans (rejectFrame_moves _)
  · exact elapse_moves dt

/-- A received frame whose handling needs PLACED, TRACKING or PARKED (R13). -/
theorem frame_moves {dt : Nat} {arb : Arbitration} {acts : State → State} (hc : c.content.isSome = true)
    (ha : ∀ u : State, s.Awake u → Moves c s u (acts u))
    (h : (Host.Outcome.next (s.receive dt arb (fun u => u.handled arb acts)) : Host.Outcome State Fault Refusal) = .next t) :
    Moves c s s t :=
  Host.Outcome.next.inj h ▸ receive_moves dt arb _ hc fun u _ => handled_moves arb acts (ha u)

/-- A received hand-off frame that acts in TRACKING from own−1 (R53, R70, R84, R88). -/
theorem frameFromAbove_moves {dt : Nat} {arb : Arbitration} {acts : State → State} (hc : c.content.isSome = true)
    (ha : ∀ u : State, s.Tracks u → Moves c s u (acts u))
    (h : (Host.Outcome.next (s.receive dt arb (fun u => u.handled arb (fun v => v.fromAbove arb acts))) :
      Host.Outcome State Fault Refusal) = .next t) :
    Moves c s s t :=
  frame_moves hc (fun u _ => fromAbove_moves arb acts (ha u)) h

/-- What a command can do: a sequence of moves. -/
theorem exec_moves (c : Instr) (s t : State) (h : exec c s = .next t) : Moves c s s t := by
  cases c with
  | hardwareReset straps chainIn => exact .single (Host.Outcome.next.inj h ▸ .reset s straps chainIn rfl)
  | encoderPulse dt => exact encoderPulse_moves dt h
  | stallExpiry => exact stallExpiry_moves h
  | loadEdge dt level => exact loadEdge_moves dt level h
  | exitEdge dt level => exact exitEdge_moves dt level h
  | qualificationExpiry input =>
    cases input with
    | load => exact Host.Outcome.next.inj h ▸ acceptLoad_moves rfl rfl
    | exit => exact Host.Outcome.next.inj h ▸ acceptExit_moves rfl rfl
  | joinStrobe dt => exact joinStrobe_moves dt h
  | biteInhibitExpiry => exact biteInhibitExpiry_moves h
  | strobeEnd => exact strobeEnd_moves h
  | siginChange dt input level => exact siginChange_moves dt input level h
  | chainInRise change =>
    exact Host.Outcome.next.inj h ▸ (elapse_moves change.dt).tail (.pins _ { s.pins with chainIn := change.level } rfl rfl)
  | startOfFrame dt => exact startOfFrame_moves dt h
  | attempt dt => exact attempt_moves dt h
  | frameSent dt => exact frameSent_moves dt rfl h
  | arbitrationLost dt => exact arbitrationLost_moves dt h
  | bitError dt bit => exact bitError_moves dt bit h
  | frameInvalid dt bits => exact frameInvalid_moves dt bits h
  | claimReceived dt arb position flags =>
    exact Host.Outcome.next.inj h ▸ receive_moves dt arb _ rfl fun u _ =>
      (claimArrives_moves arb position flags ⟨_, _, _, _, rfl⟩).trans (refreshFrom_moves arb)
  | offerReceived dt arb serial kind tag => exact frameFromAbove_moves rfl (fun u hu => offerActs_moves _ _ _ hu) h
  | takeReceived dt arb serial kind anon age => exact frame_moves rfl (fun u hu => takeArrives_moves _ _ _ _ _ hu) h
  | passReceived dt arb serial tag flags age =>
    exact frameFromAbove_moves rfl (fun u hu => joinArrives_moves _ _ _ _ _ _ hu (by have := age.isLt; omega)) h
  | lapseReceived dt arb serial tag flags overrun age =>
    exact frameFromAbove_moves rfl (fun u hu => lapseActs_moves _ _ _ _ _ hu (by have := age.isLt; omega)) h
  | bindReceived dt arb serial kind tag anon =>
    exact frameFromAbove_moves rfl (fun u hu => bindActs_moves _ _ _ _ hu.awake) h
  | paceReceived dt arb head serial kind =>
    refine Host.Outcome.next.inj h ▸ receive_moves dt arb _ rfl fun u _ => ?_
    split_ifs with hop
    · exact paceArrives_moves _ _ _ (awake_of_operating hop)
    · exact .refl
  | raiseReceived dt arb mask => exact frame_moves rfl (fun u hu => .single (.lineHeld u _ _ hu)) h
  | vetoReceived dt arb mask => exact frame_moves rfl (fun u hu => .single (.lineHeld u _ _ hu)) h
  | askReceived dt arb mask => exact frame_moves rfl (fun u hu => .single (.lineAsked u _ hu)) h
  | dropReceived dt arb mask => exact frame_moves rfl (fun u hu => .single (.lineDropped u _ _ hu)) h
  | paceTimerExpiry => exact paceTimerExpiry_moves h
  | silenceTimerExpiry side => exact silenceTimerExpiry_moves side h
  | claimRepeatExpiry => exact claimRepeatExpiry_moves h
  | vetoWindowExpiry line => exact vetoWindowExpiry_moves line h
  | nullBlock dt => exact Host.Outcome.next.inj h ▸ elapse_moves dt
  | unknownCommand dt code => exact unknownCommand_moves dt code h
  | configure dt params => exact configure_moves dt params h
  | close dt params => exact close_moves dt params h
  | announce dt params => exact announce_moves dt params h
  | withdraw dt params => exact withdraw_moves dt params h
  | ready dt params => exact ready_moves dt params h
  | unready dt params => exact unready_moves dt params h
  | trip dt params => exact trip_moves dt params h
  | clearTrip dt params => exact clearTrip_moves dt params h
  | signal dt params => exact signal_moves dt params h
  | park dt params => exact park_moves dt params h
  | resume dt params => exact resume_moves dt params h
  | clearTrack dt params => exact clearTrack_moves dt params h
  | inhibit dt params => exact inhibit_moves dt params h
  | slip dt params => exact slip_moves dt params h
  | attnEnable dt params => exact attnEnable_moves dt params h
  | attnDisable dt params => exact attnDisable_moves dt params h
  | readActions dt params => exact readActions_moves dt params h
  | readZone dt params => exact readZone_moves dt params h
  | readStation dt params => exact readStation_moves dt params h
  | clearCounts dt params => exact clearCounts_moves dt params h
  | lineIdle dt => exact lineIdle_moves dt h
  | blockCheckFailed dt bytes => exact blockCheckFailed_moves dt bytes h

/-- What every move keeps, a command keeps. -/
theorem exec_keeps {c : Instr} {s t : State} (P : State → Prop) (step : ∀ u v, Move c s u v → P u → P v) (start : P s)
    (h : exec c s = .next t) : P t := by
  have moves := exec_moves c s t h
  clear h
  induction moves with
  | refl => exact start
  | tail _ move ih => exact step _ _ move ih

end Sys2Proof.Machine
end


section
/-!
What every command keeps at the coarsest: it completes and leaves the waiting commands alone, it moves the station only as
R12 says, and in STOPPED it leaves standing what R14 freezes.
-/

namespace Sys2Proof.Machine

variable {c : Instr} {s u v t : State}

/-! ### Every command completes -/

/-- The parameters of a command, or a timer that runs or not, choose between next states; there is no other outcome. -/
theorem exec_completes (c : Instr) (s : State) : ∃ t, exec c s = .next t := by
  cases c with
  | stallExpiry | strobeEnd | biteInhibitExpiry | paceTimerExpiry | claimRepeatExpiry =>
    simp only [exec, execStallExpiry, execStrobeEnd, execBiteInhibitExpiry, execPaceTimerExpiry, execClaimRepeatExpiry]
    split <;> exact ⟨_, rfl⟩
  | vetoWindowExpiry line =>
    simp only [exec, execVetoWindowExpiry]
    split <;> exact ⟨_, rfl⟩
  | silenceTimerExpiry side =>
    cases side
    all_goals
      simp only [exec, execSilenceTimerExpiry]
      split <;> exact ⟨_, rfl⟩
  | qualificationExpiry input => cases input <;> exact ⟨_, rfl⟩
  | configure | close | announce | withdraw | ready | unready | trip | clearTrip | signal | park | resume | clearTrack
  | inhibit | slip | attnEnable | attnDisable | readActions | readZone | readStation | clearCounts =>
    simp only [exec, execConfigure, execClose, execAnnounce, execWithdraw, execReady, execUnready, execTrip, execClearTrip,
      execSignal, execPark, execResume, execClearTrack, execInhibit, execSlip, execAttnEnable, execAttnDisable,
      execReadActions, execReadZone, execReadStation, execClearCounts]
    split <;> exact ⟨_, rfl⟩
  | _ => exact ⟨_, rfl⟩

/-! ### Frames of the composed operations -/

/-- What CLEAR TRACK leaves unchanged (R17). -/
@[simp] theorem State.clearTrack_frame (s : State) :
    s.clearTrack.startup = s.startup ∧ s.clearTrack.pins = s.pins ∧ s.clearTrack.travel = s.travel
      ∧ s.clearTrack.sensing = s.sensing ∧ s.clearTrack.zone = { s.zone with queue := [], overdueFlag := false }
      ∧ s.clearTrack.handoff = { s.handoff with expectations := [], lastTake := none }
      ∧ s.clearTrack.slip = s.slip ∧ s.clearTrack.entry = s.entry ∧ s.clearTrack.mill.queue = s.mill.queue
      ∧ s.clearTrack.mill.flight = s.mill.flight ∧ s.clearTrack.mill.sof = s.mill.sof
      ∧ s.clearTrack.port.ready = s.port.ready ∧ s.clearTrack.port.actions = s.port.actions
      ∧ s.clearTrack.port.attnLatch = s.port.attnLatch ∧ s.clearTrack.pending = s.pending := by
  simp [State.clearTrack]

/-- What the counts at 0 leave unchanged (R159). -/
@[simp] theorem State.zeroCounts_frame (s : State) :
    s.zeroCounts.startup = s.startup ∧ s.zeroCounts.pins = s.pins ∧ s.zeroCounts.travel = s.travel
      ∧ s.zeroCounts.sensing.load = s.sensing.load ∧ s.zeroCounts.sensing.exit = s.sensing.exit
      ∧ s.zeroCounts.sensing.inhibit = s.sensing.inhibit ∧ s.zeroCounts.zone.queue = s.zone.queue
      ∧ s.zeroCounts.zone.overdueFlag = s.zone.overdueFlag ∧ s.zeroCounts.zone.thresholds = s.zone.thresholds
      ∧ s.zeroCounts.handoff.expectations = s.handoff.expectations
      ∧ s.zeroCounts.handoff.lastTake = s.handoff.lastTake ∧ s.zeroCounts.slip.code = s.slip.code
      ∧ s.zeroCounts.entry = s.entry ∧ s.zeroCounts.lines = s.lines ∧ s.zeroCounts.mill.queue = s.mill.queue
      ∧ s.zeroCounts.mill.slots = s.mill.slots ∧ s.zeroCounts.mill.flight = s.mill.flight
      ∧ s.zeroCounts.mill.sof = s.mill.sof ∧ s.zeroCounts.port = s.port ∧ s.zeroCounts.pending = s.pending := by
  and_intros <;> rfl

/-- What a host TRIP flag leaves unchanged (R118). -/
@[simp] theorem State.setHostTrip_frame (s : State) (flag : Bool) :
    (s.setHostTrip flag).startup = s.startup ∧ (s.setHostTrip flag).pins = s.pins
      ∧ (s.setHostTrip flag).travel = s.travel ∧ (s.setHostTrip flag).sensing = s.sensing
      ∧ (s.setHostTrip flag).zone = s.zone ∧ (s.setHostTrip flag).handoff = s.handoff
      ∧ (s.setHostTrip flag).slip = s.slip ∧ (s.setHostTrip flag).entry = s.entry
      ∧ (s.setHostTrip flag).mill.queue = s.mill.queue ∧ (s.setHostTrip flag).mill.flight = s.mill.flight
      ∧ (s.setHostTrip flag).mill.sof = s.mill.sof ∧ (s.setHostTrip flag).port = s.port
      ∧ (s.setHostTrip flag).pending = s.pending := by
  simp [State.setHostTrip]

/-- What SIGNAL leaves unchanged (R118). -/
@[simp] theorem State.signal_frame (s : State) (set clear : LineMask) :
    (s.signal set clear).startup = s.startup ∧ (s.signal set clear).pins = s.pins
      ∧ (s.signal set clear).travel = s.travel ∧ (s.signal set clear).sensing = s.sensing
      ∧ (s.signal set clear).zone = s.zone ∧ (s.signal set clear).handoff = s.handoff
      ∧ (s.signal set clear).slip = s.slip ∧ (s.signal set clear).entry = s.entry
      ∧ (s.signal set clear).mill.queue = s.mill.queue ∧ (s.signal set clear).mill.flight = s.mill.flight
      ∧ (s.signal set clear).mill.sof = s.mill.sof ∧ (s.signal set clear).port.ready = s.port.ready
      ∧ (s.signal set clear).port.actions = s.port.actions ∧ (s.signal set clear).port.attnLatch = s.port.attnLatch
      ∧ (s.signal set clear).pending = s.pending := by
  unfold State.signal
  split_ifs <;> simp

/-- What READ ACTIONS does to the port, and that it changes nothing else (R161, R162). -/
@[simp] theorem State.readActions_frame (s : State) :
    s.readActions.startup = s.startup ∧ s.readActions.pins = s.pins ∧ s.readActions.travel = s.travel
      ∧ s.readActions.sensing = s.sensing ∧ s.readActions.zone = s.zone ∧ s.readActions.handoff = s.handoff
      ∧ s.readActions.slip = s.slip ∧ s.readActions.entry = s.entry ∧ s.readActions.lines = s.lines
      ∧ s.readActions.mill = s.mill ∧ s.readActions.port.ready = s.port.ready
      ∧ s.readActions.port.actions = s.port.actions.drop 8
      ∧ (s.readActions.port.attnLatch = if (s.port.actions.drop 8).isEmpty then false else s.port.attnLatch)
      ∧ s.readActions.port.attnEnable = s.port.attnEnable ∧ s.readActions.pending = s.pending := by
  and_intros <;> rfl

/-- What entering PLACED leaves unchanged (R149). -/
@[simp] theorem State.enterPlaced_frame (s : State) :
    s.enterPlaced.startup.station = .placed ∧ s.enterPlaced.startup.position = s.startup.position
      ∧ s.enterPlaced.startup.straps = s.startup.straps ∧ s.enterPlaced.startup.chainOut = true
      ∧ s.enterPlaced.startup.config = s.startup.config ∧ s.enterPlaced.pins = s.pins
      ∧ s.enterPlaced.travel = s.travel ∧ s.enterPlaced.sensing = s.sensing ∧ s.enterPlaced.zone = s.zone
      ∧ s.enterPlaced.handoff.expectations = s.handoff.expectations ∧ s.enterPlaced.slip = s.slip
      ∧ s.enterPlaced.entry = s.entry ∧ s.enterPlaced.lines = s.lines ∧ s.enterPlaced.mill.queue = s.mill.queue
      ∧ s.enterPlaced.mill.flight = s.mill.flight ∧ s.enterPlaced.mill.sof = s.mill.sof
      ∧ s.enterPlaced.port = s.port ∧ s.enterPlaced.pending = s.pending := by
  simp [State.enterPlaced]

/-- What entering STOPPED leaves unchanged (R14). -/
@[simp] theorem State.enterStopped_frame (s : State) :
    s.enterStopped.startup = { s.startup with station := .stopped, claimRepeat := none } ∧ s.enterStopped.pins = s.pins
      ∧ s.enterStopped.travel = { s.travel with stallRunning := false } ∧ s.enterStopped.zone = s.zone
      ∧ s.enterStopped.handoff.expectations = s.handoff.expectations ∧ s.enterStopped.slip = s.slip
      ∧ s.enterStopped.entry = s.entry ∧ s.enterStopped.mill.queue = [] ∧ s.enterStopped.mill.flight = none
      ∧ s.enterStopped.mill.sof = s.mill.sof ∧ s.enterStopped.port = s.port
      ∧ s.enterStopped.pending = s.pending := by
  and_intros <;> rfl

/-- What CLOSE leaves (R20, R155): every field but the detectors, the bite-present FAULT and the answer. -/
@[simp] theorem State.closeConfiguration_frame (s : State) :
    s.closeConfiguration.startup = { s.startup with config := s.startup.config.closed, station := .tracking }
      ∧ s.closeConfiguration.pins = s.pins ∧ s.closeConfiguration.travel = s.travel.closed
      ∧ s.closeConfiguration.zone = { s.zone with thresholds := s.startup.config.closed.thresholds }
      ∧ s.closeConfiguration.handoff = s.handoff
      ∧ s.closeConfiguration.slip = { s.slip with code := s.startup.config.closed.initialSlip }
      ∧ s.closeConfiguration.entry = s.entry ∧ s.closeConfiguration.lines = s.lines
      ∧ s.closeConfiguration.mill = s.mill ∧ s.closeConfiguration.port.ready = s.port.ready
      ∧ s.closeConfiguration.pending = s.pending := by
  simp [State.closeConfiguration]

/-- What entering PARKED leaves unchanged (R15). -/
@[simp] theorem State.enterParked_frame (s : State) :
    s.enterParked.startup = { s.startup with station := .parked } ∧ s.enterParked.pins = s.pins
      ∧ s.enterParked.travel = { s.travel with tp := Config.stalled, stallRunning := false }
      ∧ s.enterParked.zone = s.zone ∧ s.enterParked.handoff = s.handoff ∧ s.enterParked.slip = s.slip
      ∧ s.enterParked.entry = s.entry ∧ s.enterParked.lines = s.lines ∧ s.enterParked.mill = s.mill
      ∧ s.enterParked.port = s.port ∧ s.enterParked.pending = s.pending := by
  and_intros <;> rfl

/-- What RESUME leaves unchanged (R16). -/
@[simp] theorem State.resumeTracking_frame (s : State) :
    s.resumeTracking.startup = { s.startup with station := .tracking } ∧ s.resumeTracking.pins = s.pins
      ∧ s.resumeTracking.travel = { s.travel with restart := true }
      ∧ s.resumeTracking.zone = s.zone ∧ s.resumeTracking.handoff = s.handoff ∧ s.resumeTracking.slip = s.slip
      ∧ s.resumeTracking.entry = s.entry ∧ s.resumeTracking.lines = s.lines ∧ s.resumeTracking.mill = s.mill
      ∧ s.resumeTracking.port.ready = s.port.ready ∧ s.resumeTracking.pending = s.pending := by
  simp [State.resumeTracking]

/-- What hardware reset leaves (R12, R146). -/
@[simp] theorem State.afterReset_frame (s : State) (straps : Straps) (chainIn : Bool) :
    ((s.afterReset straps chainIn).startup.station = if straps.first then .claiming else .unset)
      ∧ (s.afterReset straps chainIn).startup.straps = straps
      ∧ ((s.afterReset straps chainIn).startup.position = if straps.first then 1 else 0)
      ∧ (s.afterReset straps chainIn).startup.chainOut = false
      ∧ (s.afterReset straps chainIn).startup.config = Configuration.default
      ∧ (s.afterReset straps chainIn).zone = State.reset.zone ∧ (s.afterReset straps chainIn).travel = State.reset.travel
      ∧ (s.afterReset straps chainIn).sensing = State.reset.sensing
      ∧ (s.afterReset straps chainIn).handoff = State.reset.handoff
      ∧ (s.afterReset straps chainIn).slip = State.reset.slip ∧ (s.afterReset straps chainIn).entry = State.reset.entry
      ∧ (s.afterReset straps chainIn).lines = State.reset.lines ∧ (s.afterReset straps chainIn).port.ready = []
      ∧ (s.afterReset straps chainIn).pending = s.pending := by
  unfold State.afterReset State.enterClaiming
  split_ifs <;> simp_all [State.reset]

/-! ### Waiting commands -/

/-- No move touches the waiting commands (log entry 3). -/
theorem Move.pending (move : Move c s u v) : v.pending = u.pending := by
  cases move <;> simp

/-- Settles O2: one outcome per command, and no move touches the waiting commands. -/
theorem everyCommandCompletes : Obligations.EveryCommandCompletes := by
  intro c s
  obtain ⟨t, ht⟩ := exec_completes c s
  exact ⟨t, ht, exec_keeps (fun u => u.pending = s.pending) (fun u v move h => move.pending.trans h) rfl ht⟩

/-! ### Station states -/

/-- What O58 says of a state that a command other than hardware reset has reached from `s` (R12, R149, R155). -/
structure State.Moved (c : Instr) (s u : State) : Prop where
  station : u.startup.station = s.startup.station ∨ moves c s.startup.station u.startup.station = true
  position : s.startup.station ≠ .unset → u.startup.position = s.startup.position
  straps : u.startup.straps = s.startup.straps
  closed : s.startup.station = .tracking ∨ s.startup.station = .parked →
    u.startup.config = s.startup.config ∧ u.zone.thresholds = s.zone.thresholds

/-- A move that leaves the start-up unit and the thresholds as they are keeps what O58 says. -/
theorem State.Moved.of_eq (m : s.Moved c u) (hs : v.startup = u.startup) (ht : v.zone.thresholds = u.zone.thresholds) :
    s.Moved c v where
  station := hs ▸ m.station
  position := hs ▸ m.position
  straps := hs ▸ m.straps
  closed h := by rw [hs, ht]; exact m.closed h

/-- The station stands where it stood before a command that leads from no state to where it stands. -/
theorem State.Moved.stands {a : StationState} (m : s.Moved c u) (h : u.startup.station = a)
    (hc : moves c s.startup.station a = false) : s.startup.station = a := by
  obtain e | e := m.station
  · exact e.symm.trans h
  · rw [h, hc] at e
    exact absurd e (by simp)

/-- No event but hardware reset leads to UNSET (R12). -/
theorem moves_unset (c : Instr) (a : StationState) : moves c a .unset = false := by
  cases a <;> rfl

/-- Only the end of an own frame leads to PLACED, and such an event is no received frame (R12, R149). -/
theorem moves_operating {b : StationState} (hc : c.content.isSome = true) (hb : b.operating = true) (a : StationState) :
    moves c a b = false := by
  cases c <;> cases a <;> cases b <;> simp_all [moves, Instr.content, StationState.operating]

/-- A received frame may lead from PLACED, TRACKING and PARKED to STOPPED (R12, R140). -/
theorem moves_stopped {a : StationState} (hc : c.content.isSome = true) (ha : a.operating = true) :
    moves c a .stopped = true := by
  cases a <;> simp_all [moves, StationState.operating]

/-- Every move but hardware reset keeps what O58 says. -/
theorem State.Moved.step (m : s.Moved c u) (hc : ∀ straps chainIn, c ≠ .hardwareReset straps chainIn)
    (move : Move c s u v) : s.Moved c v := by
  cases move with
  | heard claim repeatAt awake => exact ⟨m.station, m.position, m.straps, m.closed⟩
  | claiming position command unset first range =>
    have start := m.stands unset (moves_unset c _)
    obtain ⟨dt, arb, p, f, rfl⟩ := command
    exact ⟨.inr (by rw [start]; rfl), fun h => absurd start h, m.straps, by simp [start]⟩
  | placed command claiming =>
    obtain ⟨dt, rfl⟩ := command
    have start := m.stands claiming (by cases s.startup.station <;> rfl)
    exact ⟨.inr (by simp [start, moves]), by simpa using m.position, by simpa using m.straps, by simp [start]⟩
  | stopped cause =>
    refine ⟨.inr ?_, by simpa using m.position, by simpa using m.straps, by simpa using m.closed⟩
    obtain ⟨⟨dt, arb, p, f, rfl⟩, unset⟩ | ⟨content, operating⟩ := cause
    · rw [m.stands unset (moves_unset _ _)]
      rfl
    · have start := m.stands rfl (moves_operating content operating _)
      exact moves_stopped content (start ▸ operating)
  | numberConfigured item value written command isOpen =>
    obtain ⟨dt, params, rfl⟩ := command
    have start := m.stands rfl (by cases s.startup.station <;> cases u.startup.station <;> rfl)
    refine ⟨by simpa using m.station, by simpa using m.position, by simpa using m.straps, fun h => ?_⟩
    rw [← start] at isOpen
    obtain h | h := h <;> simp [h, StationState.open] at isOpen
  | mapConfigured item map command isOpen =>
    obtain ⟨dt, params, rfl⟩ := command
    have start := m.stands rfl (by cases s.startup.station <;> cases u.startup.station <;> rfl)
    refine ⟨by simpa using m.station, by simpa using m.position, by simpa using m.straps, fun h => ?_⟩
    rw [← start] at isOpen
    obtain h | h := h <;> simp [h, StationState.open] at isOpen
  | closed command placed =>
    obtain ⟨dt, params, rfl⟩ := command
    have start := m.stands placed (by cases s.startup.station <;> rfl)
    exact ⟨.inr (by simp [start, moves]), by simpa using m.position, by simpa using m.straps, by simp [start]⟩
  | parked command tracking clear =>
    obtain ⟨dt, params, rfl⟩ := command
    have start := m.stands tracking (by cases s.startup.station <;> rfl)
    exact ⟨.inr (by simp [start, moves]), by simpa using m.position, by simpa using m.straps, by simpa using m.closed⟩
  | resumed command parked =>
    obtain ⟨dt, params, rfl⟩ := command
    have start := m.stands parked (by cases s.startup.station <;> rfl)
    exact ⟨.inr (by simp [start, moves]), by simpa using m.position, by simpa using m.straps, by simpa using m.closed⟩
  | reset straps chainIn command => exact absurd command (hc _ _)
  | _ => exact m.of_eq (by simp) (by simp)

/-- Settles O58: hardware reset by its result, and every other command move by move. -/
theorem stationMoves : Obligations.StationMoves := by
  intro c s t h
  refine ⟨fun straps chainIn hc => ?_, fun hc => ?_⟩
  · subst hc
    obtain rfl := Host.Outcome.next.inj h
    exact (s.afterReset_frame straps chainIn).1
  · have moved := exec_keeps (s.Moved c) (fun u v move m => m.step hc move) ⟨.inl rfl, fun _ => rfl, rfl, fun _ => ⟨rfl, rfl⟩⟩ h
    exact ⟨moved.station, moved.position, moved.straps, moved.closed⟩

/-! ### STOPPED -/

/-- What O59 says of a state that a command has reached from the STOPPED state `s` (R14). -/
structure State.StandsStill (s u : State) : Prop where
  startup : u.startup = s.startup
  travel : u.travel = s.travel
  sensing : u.sensing = s.sensing
  zone : u.zone = s.zone
  handoff : u.handoff = s.handoff
  slip : u.slip = s.slip
  entry : u.entry = s.entry
  lines : u.lines = s.lines
  queue : u.mill.queue = s.mill.queue
  slots : u.mill.slots = s.mill.slots
  flight : u.mill.flight = s.mill.flight
  txErrors : u.mill.txErrors = s.mill.txErrors
  txOverflows : u.mill.txOverflows = s.mill.txOverflows
  ready : u.port.ready = s.port.ready
  enable : u.port.attnEnable = s.port.attnEnable
  actions : u.port.actions <:+ s.port.actions

/-- In STOPPED the detectors are DORMANT, so that what the station states say of sensing holds (R14). -/
theorem State.Silenced.quiet (silenced : s.Silenced) (h : s.startup.station = .stopped) : s.Quiet where
  idle _ hs := absurd h hs
  silenced _ := silenced
  exit _ := silenced.exit

/-- In STOPPED the contributions are frozen (R14, R117). -/
theorem State.formContributions_stopped (m : LineMask) (h : u.startup.station = .stopped) : u.formContributions m = u := by
  simp [State.formContributions, h]

/-- In STOPPED time passes, pins change, the receiver reads on, the port answers and actions are read; every other move needs
a station that is awake (R13, R14). -/
theorem State.StandsStill.step (m : s.StandsStill u) (hs : s.startup.station = .stopped) (quiet : s.Quiet)
    (hc : ∀ straps chainIn, c ≠ .hardwareReset straps chainIn) (move : Move c s u v) : s.StandsStill v := by
  have stopped : u.startup.station = .stopped := m.startup ▸ hs
  cases move with
  | time | pins | strobe | held => exact { m with }
  | read => exact { m with actions := (List.drop_suffix _ _).trans m.actions }
  | receiver mill queue slots flight txErrors txOverflows sof =>
    exact { m with
      queue := queue.trans m.queue, slots := slots.trans m.slots, flight := flight.trans m.flight
      txErrors := txErrors.trans m.txErrors, txOverflows := txOverflows.trans m.txOverflows }
  | sigin input level =>
    refine (State.formContributions_stopped _ ?_).symm ▸ ?_
    · exact stopped
    exact { m with }
  | reset straps chainIn command => exact absurd command (hc _ _)
  | _ => simp_all [State.Awake, State.Tracks, StationState.open, StationState.operating]

/-- Settles O59: STOPPED is silenced, so no move that needs an awake station happens. -/
theorem stoppedStandsStill : Obligations.StoppedStandsStill := by
  intro c s t hs silenced hc h
  have m : s.StandsStill t :=
    exec_keeps s.StandsStill (fun u v move m => m.step hs (silenced.quiet hs) hc move)
      ⟨rfl, rfl, rfl, rfl, rfl, rfl, rfl, rfl, rfl, rfl, rfl, rfl, rfl, rfl, rfl, List.suffix_rfl⟩ h
  exact ⟨m.startup, m.travel, m.sensing, m.zone, m.handoff, m.slip, m.entry, m.lines, m.queue.trans silenced.places,
    m.slots, m.flight.trans silenced.flight, m.txErrors, m.txOverflows, m.ready, m.enable, m.actions⟩

end Sys2Proof.Machine
end


section
/-!
The collections, each with the moves that touch it: capacities, forbidden duplicates and the attention latch (R3, R54, R57,
R104, R142, R160, R162).
-/

namespace Sys2Proof.Machine

variable {c : Instr} {s u v : State}

/-! ### Zone queue -/

/-- The zone queue has room and names no feature twice (R3). -/
def ZoneKept (queue : List FeatureRecord) : Prop := queue.length ≤ 6 ∧ distinctRecords queue

theorem ZoneKept.of_sublist {l m : List FeatureRecord} (h : ZoneKept m) (sub : l.Sublist m) : ZoneKept l :=
  ⟨sub.length_le.trans h.1, h.2.sublist sub⟩

/-- The clamp of entry values keeps the name with which a record enters (R5). -/
theorem clampEntry_name (z : TravelWord) (queue : List FeatureRecord) (r : FeatureRecord) :
    (clampEntry z queue r).kind = r.kind ∧ (clampEntry z queue r).serial = r.serial := by
  unfold clampEntry
  split
  · exact ⟨rfl, rfl⟩
  · split_ifs <;> exact ⟨rfl, rfl⟩

/-- The record that enters carries a name that no record of the queue carries (R4). -/
theorem enteredRecord_fresh (z : TravelWord) (queue : List FeatureRecord) (r q : FeatureRecord) (hq : q ∈ queue)
    (hk : q.kind = (enteredRecord z queue r).kind) (hs : q.serial = (enteredRecord z queue r).serial) :
    q.serial = 0#16 := by
  obtain ⟨kind, serial⟩ := clampEntry_name z queue (demote queue r)
  rw [enteredRecord] at hk hs
  rw [kind] at hk
  rw [serial] at hs
  by_cases hd : duplicates queue r = true
  · rw [hs, demote, if_pos hd]
  · rw [demote, if_neg hd] at hk hs
    by_contra h0
    refine hd ?_
    simp only [duplicates, Bool.and_eq_true, bne_iff_ne, List.any_eq_true, beq_iff_eq]
    exact ⟨hs ▸ h0, q, hq, hk, hs⟩

/-- The entry procedure keeps the zone queue's promises (R3, R4, R7). -/
theorem ZoneKept.enterZone (r : FeatureRecord) (h : ZoneKept u.zone.queue) : ZoneKept (u.enterZone r).zone.queue := by
  rw [State.enterZone_queue]
  have fresh (l : List FeatureRecord) (sub : l.Sublist u.zone.queue) :
      distinctRecords (l ++ [enteredRecord u.travel.z u.zone.queue r]) :=
    List.pairwise_append.mpr ⟨h.2.sublist sub, List.pairwise_singleton _ _, fun q hq e he hk hs =>
      enteredRecord_fresh _ _ r q (sub.subset hq) (List.mem_singleton.mp he ▸ hk) (List.mem_singleton.mp he ▸ hs)⟩
  split_ifs with room
  · exact ⟨by simpa [Config.zoneCapacity] using room, fresh _ (List.Sublist.refl _)⟩
  · exact ⟨by have := h.1; simp; omega, fresh _ (List.tail_sublist _)⟩

/-- A record that takes a name which no other record carries keeps the zone queue's promises (R3). -/
theorem ZoneKept.change {ahead behind : List FeatureRecord} {r r' : FeatureRecord} (h : ZoneKept (ahead ++ r :: behind))
    (kind : r'.kind = r.kind)
    (name : r'.serial = r.serial ∨ ∀ q ∈ ahead ++ behind, q.kind = r'.kind → q.serial ≠ r'.serial) :
    ZoneKept (ahead ++ r' :: behind) := by
  obtain ⟨room, distinct⟩ := h
  refine ⟨by simpa using room, ?_⟩
  obtain ⟨front, rest, across⟩ := List.pairwise_append.mp distinct
  obtain ⟨own, back⟩ := List.pairwise_cons.mp rest
  refine List.pairwise_append.mpr
    ⟨front, List.pairwise_cons.mpr ⟨fun q hq hk hs => ?_, back⟩, fun a ha b hb hk hs => ?_⟩
  · obtain same | other := name
    · rw [same] at hs ⊢
      exact own q hq (kind ▸ hk) hs
    · exact absurd hs.symm (other q (List.mem_append_right _ hq) hk.symm)
  · obtain rfl | hb := List.mem_cons.mp hb
    · obtain same | other := name
      · exact across a ha r List.mem_cons_self (hk.trans kind) (hs.trans same)
      · exact absurd hs (other a (List.mem_append_left _ ha) hk)
    · exact across a ha b (List.mem_cons_of_mem _ hb) hk hs

/-- The ceiling changes no name (R30). -/
theorem holdAtCeiling_name (z : TravelWord) (r : FeatureRecord) :
    (holdAtCeiling z r).kind = r.kind ∧ (holdAtCeiling z r).serial = r.serial := by
  unfold holdAtCeiling
  split_ifs <;> exact ⟨rfl, rfl⟩

/-- Every move keeps the zone queue's promises. -/
theorem ZoneKept.step (h : ZoneKept u.zone.queue) (move : Move c s u v) : ZoneKept v.zone.queue := by
  cases move with
  | entered r => exact h.enterZone r
  | removed ahead r behind cls own awake stands =>
    rw [State.remove_queue]
    exact h.of_sublist (stands ▸ (List.sublist_cons_self r behind).trans (List.sublist_append_right ahead _))
  | changed ahead r r' behind awake stands kind place head name => exact (stands ▸ h).change kind name
  | ceiling =>
    refine ⟨by simpa using h.1, List.pairwise_map.mpr (h.2.imp fun hab hk hs => ?_)⟩
    simp only [holdAtCeiling_name] at hk hs ⊢
    exact hab hk hs
  | cleared => simp [ZoneKept, distinctRecords]
  | reset straps chainIn => simp [ZoneKept, distinctRecords, State.reset]
  | _ => simpa using h

/-! ### Expectation list, ready list, entry list -/

/-- The expectation list has room and names no feature twice (R54). -/
def ExpectationsKept (l : List Expectation) : Prop := l.length ≤ 6 ∧ distinctExpectations l

theorem ExpectationsKept.of_sublist {l m : List Expectation} (h : ExpectationsKept m) (sub : l.Sublist m) :
    ExpectationsKept l :=
  ⟨sub.length_le.trans h.1, h.2.sublist sub⟩

/-- An expectation of a new name that finds room keeps the list's promises (R54, R55). -/
theorem ExpectationsKept.append {l : List Expectation} {e : Expectation} (h : ExpectationsKept l)
    (new : e.serial ≠ 0#16 → ∀ x ∈ l, x.kind = e.kind → x.serial ≠ e.serial) (room : l.length < 6) :
    ExpectationsKept (l ++ [e]) := by
  refine ⟨by simpa using room, List.pairwise_append.mpr ⟨h.2, List.pairwise_singleton _ _, fun x hx y hy hk hs => ?_⟩⟩
  obtain rfl := List.mem_singleton.mp hy
  by_contra h0
  exact new (hs ▸ h0) x hx hk hs

/-- Every move keeps the expectation list's promises. -/
theorem ExpectationsKept.step (h : ExpectationsKept u.handoff.expectations) (move : Move c s u v) :
    ExpectationsKept v.handoff.expectations := by
  cases move with
  | expected e tracks new room => exact h.append new room
  | expectationsDropped l awake sub => exact h.of_sublist sub
  | handoff x awake same => exact same ▸ h
  | cleared => simp [ExpectationsKept, distinctExpectations]
  | reset straps chainIn => simp [ExpectationsKept, distinctExpectations, State.reset]
  | _ => simpa using h

/-- The ready list has room and holds no tag twice (R57). -/
def ReadyKept (l : List SetTag) : Prop := l.length ≤ 4 ∧ l.Nodup

/-- Every move keeps the ready list's promises. -/
theorem ReadyKept.step (h : ReadyKept u.port.ready) (move : Move c s u v) : ReadyKept v.port.ready := by
  cases move with
  | readyAdded t awake new room =>
    refine ⟨by simpa using room, ?_⟩
    simpa [List.nodup_append, h.2] using fun a ha (e : a = t) => new (e ▸ ha)
  | readyDropped l awake sub => exact ⟨sub.length_le.trans h.1, h.2.sublist sub⟩
  | reset straps chainIn => simp [ReadyKept]
  | _ => simpa using h

/-- The entry list has room and announces no serial twice (R104). -/
def BarsKept (l : List Bar) : Prop := l.length ≤ 4 ∧ (l.map Bar.serial).Nodup

/-- Every move keeps the entry list's promises. -/
theorem BarsKept.step (h : BarsKept u.entry.bars) (move : Move c s u v) : BarsKept v.entry.bars := by
  cases move with
  | barAdded b awake new room =>
    refine ⟨by simpa using room, ?_⟩
    simpa [List.nodup_append, h.2] using fun a ha e => new a ha e
  | barsDropped l awake sub => exact ⟨sub.length_le.trans h.1, h.2.sublist (sub.map _)⟩
  | reset straps chainIn => simp [BarsKept, State.reset]
  | _ => simpa using h

/-! ### Transmit queue -/

/-- The transmit queue has at most eight frames, of them at most one PACE (R142, R143). -/
def PlacesKept (q : List QueuedFrame) : Prop := q.length ≤ 8 ∧ (q.filter (fun f => f.body.isPace)).length ≤ 1

/-- The PACEs of a queue, counted by the contents of its places. -/
theorem paces_length (q : List QueuedFrame) :
    (q.filter (fun f => f.body.isPace)).length = ((q.map QueuedFrame.body).filter FrameBody.isPace).length := by
  rw [List.filter_map, List.length_map]
  rfl

/-- The promises of the transmit queue pass to every queue that holds no more frames. -/
theorem PlacesKept.of_sublist {p q : List QueuedFrame} (h : PlacesKept q)
    (sub : (p.map QueuedFrame.body).Sublist (q.map QueuedFrame.body)) : PlacesKept p := by
  refine ⟨(by simpa using sub.length_le : p.length ≤ q.length).trans h.1, ?_⟩
  have := h.2
  rw [paces_length] at this ⊢
  exact (sub.filter _).length_le.trans this

/-- A queue that has no PACE can take any frame that finds room (R143). -/
theorem PlacesKept.append {q : List QueuedFrame} {f : QueuedFrame} (h : PlacesKept q) (room : q.length < 8)
    (one : f.body.isPace = true → q.any (fun g => g.body.isPace) = false) : PlacesKept (q ++ [f]) := by
  refine ⟨by simpa using room, ?_⟩
  rw [List.filter_append, List.length_append]
  by_cases hp : f.body.isPace = true
  · have none : q.filter (fun g => g.body.isPace) = [] := by simpa [List.filter_eq_nil_iff] using one hp
    simp [none, hp]
  · simpa [hp] using h.2

/-- Handing a frame to the transmit queue keeps the queue's promises (R143). -/
theorem PlacesKept.enqueue (body : FrameBody) (age : Option AgeCount) (h : PlacesKept u.mill.queue) :
    PlacesKept (u.enqueue body age).mill.queue := by
  refine ⟨u.enqueue_length body age h.1, ?_⟩
  unfold State.enqueue
  dsimp only
  split_ifs with replaces room routine displaces
  · have same : u.mill.queue.map (fun g => (if g.body.isPace then QueuedFrame.mk body age false else g).body.isPace)
        = u.mill.queue.map (fun g => g.body.isPace) :=
      List.map_congr_left fun g _ => by split_ifs with hg <;> simp [hg, replaces.1]
    have counted (q : List QueuedFrame) :
        (q.filter (fun g => g.body.isPace)).length = (q.map (fun g => g.body.isPace)).countP id := by
      rw [List.countP_map, List.countP_eq_length_filter]
      rfl
    have := h.2
    rw [counted] at this ⊢
    simpa [List.map_map, Function.comp_def, same] using this
  · exact (h.append room (by simpa using replaces)).2
  · exact h.2
  · have shorter := dropLastWhere_length displaces
    have fewer := h.of_sublist ((dropLastWhere_sublist QueuedFrame.displaceable u.mill.queue).map QueuedFrame.body)
    refine (fewer.append (by have := h.1; omega) fun hp => ?_).2
    simp only [hp, true_and, Bool.not_eq_true] at replaces
    refine List.any_eq_false.mpr fun g hg => ?_
    exact List.any_eq_false.mp replaces g ((dropLastWhere_sublist _ _).subset hg)
  · exact h.2

/-- Every move keeps the transmit queue's promises. -/
theorem PlacesKept.step (h : PlacesKept u.mill.queue) (move : Move c s u v) : PlacesKept v.mill.queue := by
  cases move with
  | queued body age awake => exact h.enqueue body age
  | places q awake sub => exact h.of_sublist sub
  | receiver m queue => exact queue ▸ h
  | stopped cause => simp [PlacesKept]
  | reset straps chainIn =>
    have empty : PlacesKept State.reset.mill.queue := by simp [PlacesKept, State.reset]
    unfold State.afterReset State.enterClaiming
    split_ifs
    · exact PlacesKept.enqueue _ _ empty
    · exact empty
  | _ => simpa using h

/-! ### Action queue -/

/-- The action queue holds at most 16 records, and the latch is set while it holds one (R160, R162). -/
def ActionsKept (p : Port) : Prop := p.actions.length ≤ 16 ∧ (p.actions ≠ [] → p.attnLatch = true)

theorem ActionsKept.of_eq {p q : Port} (h : ActionsKept p) (ha : q.actions = p.actions) (hl : q.attnLatch = p.attnLatch) :
    ActionsKept q := by
  rw [ActionsKept, ha, hl]
  exact h

theorem ActionsKept.answer (code : Byte) (a : Answer) (h : ActionsKept u.port) : ActionsKept (u.answer code a).port :=
  h.of_eq rfl rfl

theorem ActionsKept.post (a : Action) (h : ActionsKept u.port) : ActionsKept (u.post a).port := by
  refine ⟨?_, fun _ => rfl⟩
  by_cases room : u.port.actions.length < 16
  · simp [Config.actionCapacity, room]
  · simpa [Config.actionCapacity, room] using h.1

theorem ActionsKept.postAll (as : List Action) (h : ActionsKept u.port) : ActionsKept (u.postAll as).port := by
  induction as generalizing u with
  | nil => exact h
  | cons a as ih => exact ih (u := u.post a) (h.post a)

theorem ActionsKept.makeRoom (h : ActionsKept u.port) : ActionsKept u.makeRoom.port := by
  unfold State.makeRoom
  split_ifs
  · exact h
  · split
    · exact h
    · simpa using h.post _

theorem ActionsKept.enterZone (r : FeatureRecord) (h : ActionsKept u.port) : ActionsKept (u.enterZone r).port := by
  have := (h.postAll (sequenceActions u.zone.queue r)).makeRoom
  simpa [State.enterZone] using this

theorem ActionsKept.remove (ahead : List FeatureRecord) (cls : HandedClass) (own : Action) (behind : List FeatureRecord)
    (h : ActionsKept u.port) : ActionsKept (u.remove ahead cls own behind).port := by
  simpa [State.remove] using (h.postAll _).post own

theorem ActionsKept.enqueue (body : FrameBody) (age : Option AgeCount) (h : ActionsKept u.port) :
    ActionsKept (u.enqueue body age).port := by
  unfold State.enqueue
  dsimp only
  split_ifs
  · exact h
  · exact h
  · exact h
  · exact h
  · exact ActionsKept.post (u := { u with mill := _ }) _ h

theorem ActionsKept.copiesHigh (m : LineMask) (p : Nat) (h : ActionsKept u.port) :
    ActionsKept (u.copiesHigh m p).port := by
  unfold State.copiesHigh
  dsimp only
  split_ifs
  · exact ActionsKept.post _ h
  · exact h

theorem ActionsKept.copiesLow (m : LineMask) (p : Nat) (h : ActionsKept u.port) : ActionsKept (u.copiesLow m p).port := by
  unfold State.copiesLow
  dsimp only
  split_ifs
  · exact ActionsKept.post _ h
  · exact h

theorem ActionsKept.lineFrameSent (kind : LineKind) (m : LineMask) (h : ActionsKept u.port) :
    ActionsKept (u.lineFrameSent kind m).port := by
  cases kind with
  | raise => simpa [State.lineFrameSent, State.raiseSent] using ActionsKept.copiesHigh (u := u.unmerge .raise m) m _ h
  | drop => simpa [State.lineFrameSent, State.dropSent] using ActionsKept.copiesLow (u := u.unmerge .drop m) m _ h
  | ask | veto => simpa [State.lineFrameSent, State.askSent, State.vetoSent] using h

theorem ActionsKept.armDetectors (h : ActionsKept u.port) : ActionsKept u.armDetectors.port := by
  unfold State.armDetectors
  by_cases high : u.pins.load = true
  · rw [if_pos high]
    exact ActionsKept.post _ h
  · rwa [if_neg high]

/-- Every move keeps the action queue's promises. -/
theorem ActionsKept.step (h : ActionsKept u.port) (move : Move c s u v) : ActionsKept v.port := by
  cases move with
  | held b => exact h.of_eq rfl rfl
  | read =>
    refine ⟨?_, ?_⟩
    · have := h.1
      simp
      omega
    · simp only [State.readActions_frame]
      intro some
      rw [if_neg (by simpa using some)]
      exact h.2 (by rintro e; simp [e] at some)
  | posted a awake => exact h.post a
  | entered r => exact h.enterZone r
  | removed ahead r behind cls own => exact h.remove _ _ _ _
  | queued body age awake => exact h.enqueue body age
  | slotSent kind m filledAt wire awake flying => exact ActionsKept.lineFrameSent (u := u.endFlight) kind m h
  | lineHeld m position awake => simpa [State.lineHeld] using h.copiesHigh m position
  | lineDropped m position awake => simpa [State.lineDropped] using h.copiesLow m position
  | closed command placed =>
    unfold State.closeConfiguration
    exact ActionsKept.answer _ _ (ActionsKept.armDetectors h)
  | resumed command parked =>
    unfold State.resumeTracking
    exact ActionsKept.answer _ _ (ActionsKept.armDetectors h)
  | cleared | signals | readyAdded | readyDropped | attention => exact h.of_eq (by simp) (by simp)
  | reset straps chainIn =>
    have empty : ActionsKept State.reset.port := by simp [ActionsKept, State.reset]
    unfold State.afterReset State.enterClaiming
    split_ifs
    · exact ActionsKept.enqueue _ _ empty
    · exact empty
  | _ => simpa using h

/-! ### All collections -/

/-- Settles O55: the six collections one by one, over the moves of a command. -/
theorem collectionsAreKept : Obligations.CollectionsAreKept := by
  intro c s t capacity distinct attention h
  have zone : ZoneKept t.zone.queue :=
    exec_keeps (fun u => ZoneKept u.zone.queue) (fun _ _ move h => h.step move) ⟨capacity.zone, distinct.zone⟩ h
  have expectations : ExpectationsKept t.handoff.expectations :=
    exec_keeps (fun u => ExpectationsKept u.handoff.expectations) (fun _ _ move h => h.step move)
      ⟨capacity.expectations, distinct.expectations⟩ h
  have ready : ReadyKept t.port.ready :=
    exec_keeps (fun u => ReadyKept u.port.ready) (fun _ _ move h => h.step move) ⟨capacity.ready, distinct.ready⟩ h
  have bars : BarsKept t.entry.bars :=
    exec_keeps (fun u => BarsKept u.entry.bars) (fun _ _ move h => h.step move) ⟨capacity.bars, distinct.bars⟩ h
  have places : PlacesKept t.mill.queue :=
    exec_keeps (fun u => PlacesKept u.mill.queue) (fun _ _ move h => h.step move) ⟨capacity.places, capacity.onePace⟩ h
  have actions : ActionsKept t.port :=
    exec_keeps (fun u => ActionsKept u.port) (fun _ _ move h => h.step move) ⟨capacity.actions, attention⟩ h
  exact ⟨⟨zone.1, expectations.1, ready.1, bars.1, places.1, actions.1, places.2⟩,
    ⟨zone.2, expectations.2, ready.2, bars.2⟩, actions.2⟩

end Sys2Proof.Machine
end


section
/-!
The ranges and the station states, each promise with the moves that touch it (R1, R12 to R16, R29, R37, R94, R146, R149,
R152, R155).
-/

namespace Sys2Proof.Machine

variable {c : Instr} {s u v : State}

/-! ### Ranges -/

theorem State.InRange.of_eq (h : u.InRange) (config : v.startup.config = u.startup.config)
    (straps : v.startup.straps = u.startup.straps) (slip : v.slip.code = u.slip.code) (travel : v.travel = u.travel) :
    v.InRange where
  config := by rw [config, straps]; exact h.config
  slip := slip ▸ h.slip
  remainder := travel ▸ h.remainder
  advance := travel ▸ h.advance
  interval := travel ▸ h.interval

/-- The advance of a pulse is at most 5,120,001 tu (R24, R94, R152). -/
theorem pulseAdvance_le {pitch code r : Nat} (hp : pitch ≤ 4096000) (hc : code ≤ 16384) (hr : r < 65536) :
    pulseProduct pitch code r / 65536 ≤ 5120001 := by
  have := Nat.mul_le_mul hp (Nat.add_le_add_left hc 65536)
  unfold pulseProduct
  omega

/-- A pulse interval lies between 1 and the stalled value (R25). -/
theorem pulseInterval_range (t : TravelCounter) (now : Nat) :
    1 ≤ pulseInterval t now ∧ pulseInterval t now ≤ Config.stalled := by
  unfold pulseInterval
  simp only [Config.stalled]
  split_ifs <;> omega

/-- An accepted value lies in the range of its item (R152, R153). -/
theorem Configuration.InRange.writeItem {c : Configuration} {last : Bool} {item v written : Nat} (h : c.InRange last)
    (hv : itemValue last c.zoneLength item v = some written) : (c.writeItem item written).InRange last := by
  unfold itemValue clampLate clampEarly clampTo zoneLengthMost at hv
  have zone := h.zoneLength
  split at hv
  case h_1 =>
    exact
      Option.some.inj hv ▸
        { h with
          zoneLength := by
            simp only [Configuration.writeItem, zoneLengthMost]
            split_ifs <;> omega }
  case h_2 => exact Option.some.inj hv ▸ { h with pitch := by simp only [Configuration.writeItem]; omega }
  case h_3 => exact Option.some.inj hv ▸ { h with initialSlip := by simp only [Configuration.writeItem]; omega }
  case h_4 => exact Option.some.inj hv ▸ { h with gain := by simp only [Configuration.writeItem]; omega }
  case h_5 => exact Option.some.inj hv ▸ { h with qualify := by simp only [Configuration.writeItem]; omega }
  case h_6 => exact Option.some.inj hv ▸ { h with lateMargin := by simp only [Configuration.writeItem]; omega }
  case h_7 => exact Option.some.inj hv ▸ { h with earlyWindow := by simp only [Configuration.writeItem]; omega }
  case h_8 => exact Option.some.inj hv ▸ { h with pacePeriod := by simp only [Configuration.writeItem]; omega }
  case h_9 => exact Option.some.inj hv ▸ { h with silencePeriods := by simp only [Configuration.writeItem]; omega }
  case h_10 => exact Option.some.inj hv ▸ { h with strobeWidth := by simp only [Configuration.writeItem]; omega }
  case h_11 => simp at hv

/-- Writing a map leaves the numeric items (R154). -/
theorem Configuration.InRange.writeMap {c : Configuration} {last : Bool} (item : Nat) (map : PinMap)
    (h : c.InRange last) : (c.writeMap item map).InRange last := by
  unfold Configuration.writeMap
  split <;> exact { h with }

/-- CLOSE leaves the numeric items in their ranges (R155). -/
theorem Configuration.InRange.closed {c : Configuration} {last : Bool} (h : c.InRange last) : c.closed.InRange last :=
  { h with
    lateMargin := by
      have := h.zoneLength
      simp only [Configuration.closed, clampLate, clampTo]
      omega
    earlyWindow := by
      simp only [Configuration.closed, clampEarly, clampTo]
      omega }

/-- The defaults are in their ranges (R152). -/
theorem Configuration.InRange.default (last : Bool) : Configuration.default.InRange last := by
  cases last <;> constructor <;> decide

/-- Every move keeps the ranges. -/
theorem State.InRange.step (h : u.InRange) (move : Move c s u v) : v.InRange := by
  cases move with
  | slip l awake range => exact { h with slip := range h }
  | pulse command tracking =>
    exact { h with
      remainder := Nat.mod_lt _ (by omega)
      advance := pulseAdvance_le h.config.pitch.2 h.slip h.remainder
      interval := pulseInterval_range _ _ }
  | stall awake => exact { h with interval := by simp [Config.stalled] }
  | numberConfigured item value written command isOpen accepted => exact { h with config := h.config.writeItem accepted }
  | mapConfigured item map command isOpen =>
    exact { h with
      config := by simpa using h.config.writeMap item map
      slip := by simpa using h.slip
      remainder := by simpa using h.remainder
      advance := by simpa using h.advance
      interval := by simpa using h.interval }
  | closed command placed =>
    exact
      { config := by simpa using h.config.closed
        slip := by simpa [Configuration.closed, Config.slipMax] using h.config.initialSlip
        remainder := by simp [TravelCounter.closed]
        advance := by simp [TravelCounter.closed]
        interval := by simp [TravelCounter.closed, Config.stalled] }
  | parked command tracking clear => exact { h with interval := by simp [Config.stalled] }
  | resumed command parked =>
    exact
      { config := by simpa using h.config
        slip := by simpa using h.slip
        remainder := by simpa using h.remainder
        advance := by simpa using h.advance
        interval := by simpa using h.interval }
  | stopped cause => exact { h with }
  | reset straps chainIn =>
    exact
      { config := by simpa using Configuration.InRange.default straps.last
        slip := by simp [State.reset, Config.slipMax]
        remainder := by simp [State.reset]
        advance := by simp [State.reset]
        interval := by simp [State.reset, Config.stalled] }
  | _ => exact h.of_eq (by simp) (by simp) (by simp) (by simp)

/-! ### Zone records -/

/-- The record that enters is proper when the record offered is (R1, R4, R5). -/
theorem FeatureRecord.Proper.entered {r : FeatureRecord} (z : TravelWord) (queue : List FeatureRecord) (h : r.Proper) :
    (enteredRecord z queue r).Proper := by
  have demoted : (demote queue r).Proper := by
    unfold demote
    split_ifs
    · exact { h with named := fun h0 => absurd rfl h0 }
    · exact h
  unfold enteredRecord clampEntry
  split
  · exact demoted
  · split_ifs
    · exact { demoted with }
    · exact demoted

/-- A record held at the ceiling stays proper (R30). -/
theorem FeatureRecord.Proper.held {r : FeatureRecord} (z : TravelWord) (h : r.Proper) : (holdAtCeiling z r).Proper := by
  unfold holdAtCeiling
  split_ifs
  · exact { h with }
  · exact h

/-- Every move keeps the zone records proper. -/
theorem State.ProperRecords.step (h : u.ProperRecords) (move : Move c s u v) : v.ProperRecords := by
  cases move with
  | entered r tracks proper =>
    intro q hq
    rw [State.enterZone_queue, List.mem_append, List.mem_singleton] at hq
    obtain hq | rfl := hq
    · split_ifs at hq
      · exact h q hq
      · exact h q (List.mem_of_mem_tail hq)
    · exact proper.entered _ _
  | removed ahead r behind cls own awake stands =>
    intro q hq
    rw [State.remove_queue] at hq
    exact h q (stands ▸ List.mem_append_right _ (List.mem_cons_of_mem _ hq))
  | changed ahead r r' behind awake stands kind place head name proper =>
    intro q hq
    simp only [State.withZone_fields, List.mem_append, List.mem_cons] at hq
    obtain hq | rfl | hq := hq
    · exact h q (stands ▸ List.mem_append_left _ hq)
    · exact proper (h r (stands ▸ List.mem_append_right _ List.mem_cons_self))
    · exact h q (stands ▸ List.mem_append_right _ (List.mem_cons_of_mem _ hq))
  | ceiling =>
    intro q hq
    obtain ⟨r, hr, rfl⟩ := List.mem_map.mp hq
    exact (h r hr).held _
  | cleared => simp [State.ProperRecords]
  | reset straps chainIn => simp [State.ProperRecords, State.reset]
  | _ => simpa [State.ProperRecords] using h

/-! ### Thresholds -/

theorem State.Closed.of_eq (h : u.Closed) (station : v.startup.station = u.startup.station)
    (config : v.startup.config = u.startup.config) (thresholds : v.zone.thresholds = u.zone.thresholds) : v.Closed := by
  unfold State.Closed
  rw [station, config, thresholds]
  exact h

/-- Outside TRACKING and PARKED nothing is asked of the thresholds (R155). -/
theorem State.Closed.of_station (h : v.startup.station ≠ .tracking ∧ v.startup.station ≠ .parked) : v.Closed := by
  rintro (ht | hp)
  · exact absurd ht h.1
  · exact absurd hp h.2

theorem ne_tracked_of_open {st : StationState} (h : st.open = true) : st ≠ .tracking ∧ st ≠ .parked := by
  constructor <;> rintro rfl <;> simp [StationState.open] at h

/-- Every move keeps the thresholds those of the configuration record. -/
theorem State.Closed.step (h : u.Closed) (move : Move c s u v) : v.Closed := by
  cases move with
  | claiming => exact .of_station (by simp)
  | placed => exact .of_station (by simp)
  | stopped => exact .of_station (by simp)
  | numberConfigured item value written command isOpen => exact .of_station (by simpa using ne_tracked_of_open isOpen)
  | mapConfigured item map command isOpen => exact .of_station (by simpa using ne_tracked_of_open isOpen)
  | closed command placed =>
    intro
    simp only [State.closeConfiguration_frame, Configuration.closed, clampLate, clampEarly]
    exact ⟨trivial, Nat.min_le_left _ _, Nat.min_le_left _ _⟩
  | parked command tracking => exact fun _ => h (.inl tracking)
  | resumed command parked => simpa [State.Closed] using h (.inr parked)
  | reset straps chainIn => exact .of_station (by simp; split_ifs <;> simp)
  | _ => exact h.of_eq (by simp) (by simp) (by simp)

/-! ### Position and CHAIN-OUT -/

theorem State.Stationed.of_eq (h : u.Stationed) (station : v.startup.station = u.startup.station)
    (position : v.startup.position = u.startup.position) (chainOut : v.startup.chainOut = u.startup.chainOut)
    (straps : v.startup.straps = u.startup.straps) : v.Stationed := by
  constructor
  · rw [station, position, chainOut]; exact h.unset
  · rw [station, chainOut]; exact h.claiming
  · rw [station, chainOut]; exact h.placed
  · rw [station, position]; exact h.position
  · rw [station, position, straps]; exact h.first

/-- A move to TRACKING or PARKED from a state of the exchange keeps position and CHAIN-OUT (R12). -/
theorem State.Stationed.operating (h : u.Stationed) (before : u.startup.station.operating = true)
    (after : v.startup.station.operating = true) (position : v.startup.position = u.startup.position)
    (chainOut : v.startup.chainOut = u.startup.chainOut) (straps : v.startup.straps = u.startup.straps) :
    v.Stationed where
  unset e := by simp [e, StationState.operating] at after
  claiming e := by simp [e, StationState.operating] at after
  placed _ := chainOut ▸ h.placed before
  position _ := position ▸ h.position (.inr before)
  first e := ⟨by rintro e; simp [e, StationState.operating] at after, position ▸ (h.first (straps ▸ e)).2⟩

/-- Every move keeps what the station state says of position and CHAIN-OUT. -/
theorem State.Stationed.step (h : u.Stationed) (move : Move c s u v) : v.Stationed := by
  cases move with
  | claiming position command unset first range =>
    exact
      { unset := by simp
        claiming := fun _ => (h.unset unset).2
        placed := by simp [StationState.operating]
        position := fun _ => range
        first := by simp [first] }
  | placed command claiming =>
    exact
      { unset := by simp
        claiming := by simp
        placed := by simp
        position := fun _ => by simpa using h.position (.inl claiming)
        first := fun e => by simpa using (h.first (by simpa using e)).2 }
  | stopped cause =>
    exact
      { unset := by simp
        claiming := by simp
        placed := by simp [StationState.operating]
        position := by simp [StationState.operating]
        first := fun e => by simpa using (h.first (by simpa using e)).2 }
  | closed command placed =>
    exact h.operating (by simp [placed, StationState.operating]) (by simp [StationState.operating]) (by simp) (by simp)
      (by simp)
  | parked command tracking => exact h.operating (by simp [tracking, StationState.operating]) rfl rfl rfl rfl
  | resumed command parked =>
    exact h.operating (by simp [parked, StationState.operating]) (by simp [StationState.operating]) (by simp) (by simp)
      (by simp)
  | reset straps chainIn => cases hf : straps.first <;> constructor <;> simp [hf, StationState.operating]
  | _ => exact h.of_eq (by simp) (by simp) (by simp) (by simp)

/-! ### Sensing, zone and timers -/

/-- A promise of an idle station passes to every state that tracks, senses and expects no more. -/
theorem State.Idle.of_eq (h : u.Idle) (zone : v.zone.queue = u.zone.queue)
    (expectations : v.handoff.expectations = u.handoff.expectations) (load : v.sensing.load = u.sensing.load)
    (exit : v.sensing.exit = u.sensing.exit) (inhibit : v.sensing.inhibit = u.sensing.inhibit)
    (stall : v.travel.stallRunning = u.travel.stallRunning) : v.Idle :=
  ⟨zone.trans h.zone, expectations.trans h.expectations, load.trans h.load, exit.trans h.exit, inhibit.trans h.inhibit,
    stall.trans h.stall⟩

/-- A move in a state other than STOPPED that keeps an idle station idle (R13, R37). -/
theorem State.Quiet.awake_step (h : u.Quiet) (awake : u.startup.station ≠ .stopped)
    (station : v.startup.station = u.startup.station) (straps : v.startup.straps = u.startup.straps)
    (idle : u.Idle → v.Idle) (exit : u.sensing.exit = .dormant → v.sensing.exit = .dormant) : v.Quiet where
  idle ht hs := idle (h.idle (station ▸ ht) (station ▸ hs))
  silenced hs := absurd (station ▸ hs) awake
  exit hl := exit (h.exit (straps ▸ hl))

/-- A move to TRACKING, or within it, keeps the EXIT detector out of use where it has no use (R37). -/
theorem State.Quiet.of_tracking (h : u.Quiet) (tracking : v.startup.station = .tracking)
    (straps : v.startup.straps = u.startup.straps)
    (exit : u.startup.straps.last = false → u.sensing.exit = .dormant → v.sensing.exit = .dormant) : v.Quiet where
  idle ht := absurd tracking ht
  silenced hs := by simp [tracking] at hs
  exit hl := exit (straps ▸ hl) (h.exit (straps ▸ hl))

/-- A move that touches nothing of which a station state speaks. -/
theorem State.Quiet.of_eq (h : u.Quiet) (startup : v.startup = u.startup) (travel : v.travel = u.travel)
    (sensing : v.sensing = u.sensing) (zone : v.zone = u.zone) (handoff : v.handoff = u.handoff)
    (lines : v.lines = u.lines) (queue : v.mill.queue = u.mill.queue) (slots : v.mill.slots = u.mill.slots)
    (flight : v.mill.flight = u.mill.flight) : v.Quiet where
  idle ht hs :=
    (h.idle (startup ▸ ht) (startup ▸ hs)).of_eq (by rw [zone]) (by rw [handoff]) (by rw [sensing]) (by rw [sensing])
      (by rw [sensing]) (by rw [travel])
  silenced hs := by
    have q := h.silenced (startup ▸ hs)
    constructor
    · rw [sensing]; exact q.load
    · rw [sensing]; exact q.exit
    · rw [sensing]; exact q.inhibit
    · rw [travel]; exact q.stall
    · rw [startup]; exact q.claimRepeat
    · rw [handoff]; exact q.pace
    · rw [handoff]; exact q.up
    · rw [handoff]; exact q.down
    · rw [lines]; exact q.windows
    · rw [queue]; exact q.places
    · rw [slots]; exact q.slots
    · rw [flight]; exact q.flight
  exit hl := by rw [sensing]; exact h.exit (startup ▸ hl)

/-- Entering STOPPED silences the part (R14). -/
theorem State.enterStopped_silenced (u : State) : u.enterStopped.Silenced := by
  have windows : u.enterStopped.lines.line.mask (fun l => l.windowEnd.isSome) = 0#8 := by
    apply LineMask.ext_fin
    intro n
    have every : ∀ n : Fin 8, (255#8).getLsbD n = true := by decide
    simp only [State.enterStopped, Eight.mask_getLsbD, Eight.get_mapMask, every n, if_true]
    simp [TrainLine.stopWindow]
  exact ⟨rfl, rfl, rfl, rfl, rfl, rfl, rfl, rfl, windows, rfl, rfl, rfl⟩

/-- CLOSE and RESUME leave the EXIT detector out of use where the station is not the exit station (R37, R38). -/
theorem State.armDetectors_exit (u : State) (h : u.startup.straps.last = false) :
    u.armDetectors.sensing.exit = u.sensing.exit := by
  unfold State.armDetectors
  dsimp only
  split_ifs <;> simp_all

/-- Every move keeps what the station state says of sensing, zone and timers. -/
theorem State.Quiet.step (h : u.Quiet) (quiet : s.Quiet) (move : Move c s u v) : v.Quiet := by
  cases move with
  | time | pins | strobe | held | read => exact h.of_eq rfl rfl rfl rfl rfl rfl rfl rfl rfl
  | receiver m queue slots flight => exact h.of_eq rfl rfl rfl rfl rfl rfl queue slots flight
  | sigin input level =>
    by_cases hs : u.startup.station = .stopped
    · refine (State.formContributions_stopped _ ?_).symm ▸ ?_
      · exact hs
      · exact h.of_eq rfl rfl rfl rfl rfl rfl rfl rfl rfl
    · exact h.awake_step hs (by simp) (by simp)
        (fun i => i.of_eq (by simp) (by simp) (by simp) (by simp) (by simp) (by simp)) (by simp)
  | entered r tracks => exact h.of_tracking (by simpa using tracks quiet) (by simp) (by simp)
  | expected e tracks => exact h.of_tracking (by simpa using tracks quiet) (by simp) (by simp)
  | sensing x tracks exit => exact h.of_tracking (by simpa using tracks quiet) rfl fun _ => exit
  | removed ahead r behind cls own awake stands =>
    exact h.awake_step (awake quiet) (by simp) (by simp) (fun i => by simp [i.zone] at stands) (by simp)
  | changed ahead r r' behind awake stands =>
    exact h.awake_step (awake quiet) rfl rfl (fun i => by simp [i.zone] at stands) id
  | ceiling awake =>
    exact h.awake_step (awake quiet) rfl rfl (fun i => { i with zone := by simp [i.zone] }) id
  | cleared awake =>
    exact h.awake_step (awake quiet) (by simp) (by simp)
      (fun i =>
        ⟨by simp, by simp, by simpa using i.load, by simpa using i.exit, by simpa using i.inhibit, by simpa using i.stall⟩)
      (by simp)
  | expectationsDropped l awake sub =>
    exact h.awake_step (awake quiet) rfl rfl
      (fun i => { i with expectations := List.sublist_nil.mp (i.expectations ▸ sub) }) id
  | handoff x awake same =>
    exact h.awake_step (awake quiet) rfl rfl (fun i => { i with expectations := same.trans i.expectations }) id
  | pulse command tracking => exact h.of_tracking tracking rfl fun _ => id
  | stall awake => exact h.awake_step (awake quiet) rfl rfl (fun i => { i with stall := rfl }) id
  | claiming position command unset =>
    exact
      { idle := fun _ _ => { h.idle (by simp [unset]) (by simp [unset]) with }
        silenced := by simp
        exit := h.exit }
  | placed command claiming =>
    have i := h.idle (by simp [claiming]) (by simp [claiming])
    exact
      { idle := fun _ _ => i.of_eq (by simp) (by simp) (by simp) (by simp) (by simp) (by simp)
        silenced := by simp
        exit := by simpa using h.exit }
  | stopped cause => exact { idle := by simp, silenced := fun _ => u.enterStopped_silenced, exit := fun _ => rfl }
  | numberConfigured item value written command isOpen =>
    exact h.awake_step (by rintro e; simp [e, StationState.open] at isOpen) rfl rfl (fun i => { i with }) id
  | mapConfigured item map command isOpen =>
    exact h.awake_step (by rintro e; simp [e, StationState.open] at isOpen) (by simp) (by simp)
      (fun i => i.of_eq (by simp) (by simp) (by simp) (by simp) (by simp) (by simp)) (by simp)
  | closed command placed =>
    exact h.of_tracking (by simp) (by simp) fun hl hd => by
      simpa [State.closeConfiguration, State.armDetectors_exit, hl] using hd
  | parked command tracking clear =>
    obtain ⟨zone, expectations, -⟩ := u.clearToPark_iff.mp clear
    exact
      { idle := fun _ _ => ⟨zone, expectations, rfl, rfl, rfl, rfl⟩
        silenced := by simp
        exit := fun _ => rfl }
  | resumed command parked =>
    exact h.of_tracking (by simp) (by simp) fun hl hd => by
      simpa [State.resumeTracking, State.armDetectors_exit, hl] using hd
  | reset straps chainIn =>
    have i : (u.afterReset straps chainIn).Idle := by constructor <;> simp [State.reset]
    exact
      { idle := fun _ _ => i
        silenced := by cases hf : straps.first <;> simp [hf]
        exit := fun _ => i.exit }
  | _ =>
    exact h.awake_step (‹s.Awake u› quiet) (by simp) (by simp)
      (fun i => i.of_eq (by simp) (by simp) (by simp) (by simp) (by simp) (by simp)) (by simp)

/-- Settles O56: the five promises one by one, over the moves of a command. -/
theorem rangesAndStatesAreKept : Obligations.RangesAndStatesAreKept := by
  intro c s t range proper closed stationed quiet h
  exact ⟨exec_keeps State.InRange (fun _ _ move p => p.step move) range h,
    exec_keeps State.ProperRecords (fun _ _ move p => p.step move) proper h,
    exec_keeps State.Closed (fun _ _ move p => p.step move) closed h,
    exec_keeps State.Stationed (fun _ _ move p => p.step move) stationed h,
    exec_keeps State.Quiet (fun _ _ move p => p.step quiet move) quiet h⟩

end Sys2Proof.Machine
end


section
/-!
The train lines one by one: what each operation of the exchange does to the view of a line, to the filling times of the slots,
and to the agreement of a contribution with its sources (R10, R11, R117 to R122, R142).
-/

namespace Sys2Proof.Machine

variable {c : Instr} {s u v t : State}

/-! ### Slots -/

@[simp] theorem Slot.merge_mask (now : Nat) (m : LineMask) (slot : Slot) :
    (slot.merge now m).mask = slot.mask ||| m := by
  unfold Slot.merge
  split_ifs <;> simp_all

@[simp] theorem Slot.remove_mask (m : LineMask) (slot : Slot) : (slot.remove m).mask = slot.mask &&& ~~~m := by
  unfold Slot.remove
  split_ifs with apart empty
  · apply LineMask.ext_fin
    intro n
    have hn := congrArg (fun x => x.getLsbD n.val) apart
    simp only [BitVec.getLsbD_and, BitVec.getLsbD_not, n.isLt, decide_true, Bool.true_and] at hn ⊢
    cases hs : slot.mask.getLsbD n.val <;> simp_all
  · exact empty.symm
  · rfl

@[simp] theorem Slot.giveBack_mask (filledAt : Nat) (m : LineMask) (slot : Slot) :
    (slot.giveBack filledAt m).mask = slot.mask ||| m := by
  unfold Slot.giveBack
  split_ifs <;> simp_all

/-- A slot that keeps its lines keeps its filling time. -/
theorem Slot.timed_refl (now : Nat) (slot : Slot) : slot.timed now slot :=
  fun some => ⟨fun none => absurd none some, fun _ => rfl, .inr rfl⟩

/-- The filling time after a merge (R142). -/
theorem Slot.merge_filledAt (now : Nat) (m : LineMask) (slot : Slot) :
    (slot.mask ≠ 0#8 → (slot.merge now m).filledAt = slot.filledAt)
      ∧ (slot.mask = 0#8 → m ≠ 0#8 → (slot.merge now m).filledAt = now) := by
  unfold Slot.merge
  split_ifs <;> simp_all

/-- The filling time after a removal that leaves a line (R120). -/
theorem Slot.remove_filledAt (m : LineMask) (slot : Slot) (h : (slot.remove m).mask ≠ 0#8) :
    (slot.remove m).filledAt = slot.filledAt := by
  unfold Slot.remove at h ⊢
  split_ifs at h ⊢
  · rfl
  · exact absurd rfl h
  · rfl

/-- Lines merged and others removed afterwards (R120, R142). -/
theorem Slot.timed_remove_merge (now : Nat) (m k : LineMask) (slot : Slot) :
    slot.timed now ((slot.merge now m).remove k) := by
  intro some
  obtain ⟨kept, filled⟩ := slot.merge_filledAt now m
  have time := (slot.merge now m).remove_filledAt k some
  rw [time]
  by_cases h0 : slot.mask = 0#8
  · have hm : m ≠ 0#8 := by
      rintro rfl
      simp [h0] at some
    exact ⟨fun _ => filled h0 hm, fun both => absurd both (by simp [h0]), .inl (filled h0 hm)⟩
  · exact ⟨fun e => absurd e h0, fun _ => kept h0, .inr (kept h0)⟩

/-- Lines removed and others merged afterwards (R120, R142). -/
theorem Slot.timed_merge_remove (now : Nat) (m k : LineMask) (slot : Slot) (apart : k &&& m = 0#8) :
    slot.timed now ((slot.remove m).merge now k) := by
  intro some
  obtain ⟨kept, filled⟩ := (slot.remove m).merge_filledAt now k
  by_cases h0 : (slot.remove m).mask = 0#8
  · have hk : k ≠ 0#8 := by
      rintro rfl
      exact some (by rw [Slot.merge_mask, h0, BitVec.or_zero])
    refine ⟨fun _ => filled h0 hk, fun both => absurd ?_ both, .inl (filled h0 hk)⟩
    rw [Slot.merge_mask, h0, BitVec.zero_or]
    rw [Slot.remove_mask] at h0
    apply LineMask.ext_fin
    intro n
    have hs := congrArg (fun x => x.getLsbD n.val) h0
    have ha := congrArg (fun x => x.getLsbD n.val) apart
    simp only [BitVec.getLsbD_and, BitVec.getLsbD_not, n.isLt, decide_true, Bool.true_and, BitVec.getLsbD_zero] at hs ha ⊢
    cases hm : m.getLsbD n.val <;> simp_all
  · have time : ((slot.remove m).merge now k).filledAt = slot.filledAt := (kept h0).trans (slot.remove_filledAt m h0)
    refine ⟨fun e => absurd ?_ h0, fun _ => time, .inr time⟩
    rw [Slot.remove_mask, e, BitVec.zero_and]

/-- Lines removed (R120). -/
theorem Slot.timed_remove (now : Nat) (m : LineMask) (slot : Slot) : slot.timed now (slot.remove m) := by
  simpa [Slot.merge] using slot.timed_merge_remove now m 0#8 (by simp)

/-! ### Views -/

/-- The view of a line that a merge puts into the slot of a kind, or not. -/
def LineView.merged (kind : LineKind) (b : Bool) (v : LineView) : LineView :=
  match kind with
  | .raise => { v with raise := v.raise || b }
  | .veto => { v with veto := v.veto || b }
  | .ask => { v with ask := v.ask || b }
  | .drop => { v with drop := v.drop || b }

/-- The view of a line that a removal takes out of the slot of a kind, or not. -/
def LineView.unmerged (kind : LineKind) (b : Bool) (v : LineView) : LineView :=
  match kind with
  | .raise => { v with raise := v.raise && !b }
  | .veto => { v with veto := v.veto && !b }
  | .ask => { v with ask := v.ask && !b }
  | .drop => { v with drop := v.drop && !b }

@[simp] theorem State.view_merge (s : State) (kind : LineKind) (m : LineMask) (n : Fin 8) :
    (s.merge kind m).view n = (s.view n).merged kind (m.getLsbD n) := by
  cases kind <;> simp [State.view, Slots.modify, LineView.merged]

@[simp] theorem State.view_unmerge (s : State) (kind : LineKind) (m : LineMask) (n : Fin 8) :
    (s.unmerge kind m).view n = (s.view n).unmerged kind (m.getLsbD n) := by
  cases kind <;> simp [State.view, Slots.modify, LineView.unmerged]

@[simp] theorem State.view_mapLines (s : State) (m : LineMask) (f : TrainLine → TrainLine) (n : Fin 8) :
    (s.mapLines m f).view n
      = { s.view n with line := if m.getLsbD n then f (s.view n).line else (s.view n).line } := by
  simp [State.view]

/-- The masks of the lines, line by line. -/
theorem State.masks_view (s : State) (n : Fin 8) :
    s.copies.getLsbD n = (s.view n).line.copy ∧ s.contributions.getLsbD n = (s.view n).line.contribution
      ∧ s.foreignAsks.getLsbD n = (s.view n).line.foreignAsk
      ∧ ∀ phase, (s.askPhase phase).getLsbD n = ((s.view n).line.ask == phase) := by
  exact ⟨Eight.mask_getLsbD _ _ _, Eight.mask_getLsbD _ _ _, Eight.mask_getLsbD _ _ _, fun _ => Eight.mask_getLsbD _ _ _⟩

/-- The view of a line depends on the lines and the slots alone. -/
theorem State.view_congr (lines : u.lines.line = s.lines.line) (slots : u.mill.slots = s.mill.slots) (n : Fin 8) :
    u.view n = s.view n := by
  simp [State.view, lines, slots]

theorem State.view_endAsks (s : State) (m : LineMask) (n : Fin 8) :
    (s.endAsks m).view n = if m.getLsbD n then (s.view n).endAsk else s.view n := by
  have masks := s.masks_view n
  simp only [State.endAsks, State.view_mapLines, State.view_unmerge, BitVec.getLsbD_and, masks, LineView.unmerged,
    LineView.endAsk, TrainLine.withAsk]
  cases m.getLsbD n.val <;> simp [bne]

theorem State.view_beginAsks (s : State) (m : LineMask) (n : Fin 8) :
    (s.beginAsks m).view n = if m.getLsbD n then (s.view n).asks else s.view n := by
  simp only [State.beginAsks, State.view_mapLines, State.view_merge, LineView.merged, LineView.asks, TrainLine.withAsk]
  cases m.getLsbD n.val <;> simp

/-- A line rises in PLACED, TRACKING or PARKED (R121): what the exchange does once the contribution is written. -/
def LineView.rising (v : LineView) : LineView :=
  if v.line.copy then { v.endAsk with veto := v.veto || v.line.foreignAsk } else { v with raise := true }

/-- A line falls in PLACED, TRACKING or PARKED (R122): what the exchange does once the contribution is written. -/
def LineView.falling (v : LineView) : LineView :=
  let w : LineView := { v with raise := false, veto := false }
  if v.line.copy = true ∧ v.line.ask = .none then w.asks else w

theorem State.view_contributionsRise (s : State) (m : LineMask) (n : Fin 8) :
    (s.contributionsRise m).view n = if m.getLsbD n then (s.view n).rising else s.view n := by
  have masks := s.masks_view n
  simp only [State.contributionsRise, State.view_merge, State.view_endAsks, BitVec.getLsbD_and, BitVec.getLsbD_not,
    n.isLt, decide_true, Bool.true_and, masks, LineView.merged, LineView.rising, LineView.endAsk]
  cases m.getLsbD n.val <;> cases (s.view n).line.copy <;> simp

theorem State.view_contributionsFall (s : State) (m : LineMask) (n : Fin 8) :
    (s.contributionsFall m).view n = if m.getLsbD n then (s.view n).falling else s.view n := by
  have masks := s.masks_view n
  simp only [State.contributionsFall, State.view_beginAsks, State.view_unmerge, BitVec.getLsbD_and, masks,
    LineView.unmerged, LineView.falling, LineView.asks]
  cases m.getLsbD n.val <;> cases (s.view n).line.copy <;> simp

/-- In PLACED, TRACKING and PARKED a concerned line is formed afresh as R121 and R122 say, and every other stands. -/
theorem State.view_formContributions (s : State) (m : LineMask) (h : s.startup.station.operating = true) (n : Fin 8) :
    (s.formContributions m).view n
      = if m.getLsbD n = true then (s.view n).formed (s.sources.getLsbD n) else s.view n := by
  have masks := s.masks_view n
  have awake : s.startup.station ≠ .stopped := operating_ne_stopped h
  simp only [State.formContributions, awake, h, if_false, if_true, State.view_contributionsFall,
    State.view_contributionsRise, State.view_mapLines, BitVec.getLsbD_and, BitVec.getLsbD_not, n.isLt, decide_true,
    Bool.true_and, masks, TrainLine.withContribution, LineView.formed]
  cases m.getLsbD n.val <;> cases s.sources.getLsbD n.val <;> cases hc : (s.view n).line.contribution <;>
    simp [LineView.rising, LineView.rises, LineView.falling, LineView.falls, LineView.endAsk, hc]

/-! ### The contributions formed afresh -/

/-- The slots after rises (R121). -/
theorem State.contributionsRise_slots (s : State) (m : LineMask) :
    (s.contributionsRise m).mill.slots
      = { raise := s.mill.slots.raise.merge s.now (m &&& ~~~s.copies)
          veto := s.mill.slots.veto.merge s.now (m &&& s.copies &&& s.foreignAsks)
          ask := s.mill.slots.ask.remove (m &&& s.copies &&& s.askPhase .asking)
          drop := s.mill.slots.drop.remove (m &&& s.copies &&& s.askPhase .dropping) } := by
  simp [State.contributionsRise, State.endAsks, Slots.modify, State.askPhase]

/-- The slots after falls (R122). -/
theorem State.contributionsFall_slots (s : State) (m : LineMask) :
    (s.contributionsFall m).mill.slots
      = { s.mill.slots with
          raise := s.mill.slots.raise.remove m
          veto := s.mill.slots.veto.remove m
          ask := s.mill.slots.ask.merge s.now (m &&& s.copies &&& s.askPhase .none) } := by
  simp [State.contributionsFall, State.beginAsks, Slots.modify]

/-- The filling times after rises and falls of different lines (R121, R122, R142). -/
theorem State.slotsTimed_contributions (s : State) (rise fall : LineMask) (apart : fall &&& rise = 0#8) (kind : LineKind) :
    Slot.timed s.now (s.mill.slots.get kind) (((s.contributionsRise rise).contributionsFall fall).mill.slots.get kind) := by
  rw [State.contributionsFall_slots, State.contributionsRise_slots, (s.contributionsRise_frame rise).1]
  cases kind with
  | raise => exact Slot.timed_remove_merge _ _ _ _
  | veto => exact Slot.timed_remove_merge _ _ _ _
  | ask =>
    refine Slot.timed_merge_remove _ _ _ _ ?_
    apply LineMask.ext_fin
    intro n
    have hn := congrArg (fun x => x.getLsbD n.val) apart
    simp only [BitVec.getLsbD_and, BitVec.getLsbD_zero, Bool.and_eq_false_iff] at hn ⊢
    tauto
  | drop => exact Slot.timed_remove _ _ _

/-- Forming contributions afresh touches the lines and their slots alone (R117). -/
theorem State.formContributions_onlyLines (s : State) (m : LineMask) : s.onlyLines (s.formContributions m) := by
  have frame := s.formContributions_frame m
  unfold State.onlyLines
  generalize s.formContributions m = t at frame ⊢
  obtain ⟨now, pins, startup, travel, sensing, zone, handoff, slip, entry, lines, strobe, mill, port, pending⟩ := t
  obtain ⟨line, hostTrip, signals⟩ := lines
  obtain ⟨rx, ownTail, idle, sof, queue, slots, flight, rxErrors, overlong, unknownKinds, txErrors, txOverflows⟩ := mill
  simpa [and_assoc] using frame

/-- Forming contributions afresh asks again for the same sources. -/
@[simp] theorem State.formContributions_sources (s : State) (m : LineMask) :
    (s.formContributions m).sources = s.sources := by
  simp [State.sources]

/-- Forming contributions afresh in PLACED, TRACKING or PARKED (R121, R122, R142). -/
theorem State.formContributions_linesFormed (s : State) (m : LineMask) (h : s.startup.station.operating = true) :
    s.linesFormed (s.formContributions m) m := by
  refine ⟨fun n => ?_, fun kind => ?_, by simp, by simp⟩
  · rw [State.formContributions_sources]
    exact s.view_formContributions m h n
  · have awake : s.startup.station ≠ .stopped := operating_ne_stopped h
    rw [(s.formContributions_frame m).1]
    have apart : (m &&& ~~~s.sources &&& s.contributions) &&& (m &&& s.sources &&& ~~~s.contributions) = 0#8 := by
      apply LineMask.ext_fin
      intro n
      simp only [BitVec.getLsbD_and, BitVec.getLsbD_not, n.isLt, decide_true, Bool.true_and, BitVec.getLsbD_zero]
      cases s.sources.getLsbD n.val <;> simp
    have timed :=
      State.slotsTimed_contributions
        ((s.mapLines (m &&& s.sources &&& ~~~s.contributions) (TrainLine.withContribution true)).mapLines
          (m &&& ~~~s.sources &&& s.contributions) (TrainLine.withContribution false)) _ _ apart kind
    simp only [State.mapLines_fields] at timed
    simpa only [State.formContributions, awake, h, if_false, if_true] using timed

/-! ### Sources -/

theorem flagBit_getLsbD : ∀ (b : Bool) (n : Fin 8),
    (flagBit b 0).getLsbD n = (decide (n = 0) && b) ∧ (flagBit b 1).getLsbD n = (decide (n = 1) && b) := by
  decide

/-- The sources of a line other than TRIP and THREAD depend on the signal pins and the SIGNAL flags alone (R118, R119). -/
theorem State.sources_getLsbD (s : State) (n : Fin 8) :
    s.sources.getLsbD n
      = ((s.startup.config.sigin0.activeLines s.pins.sigin0).getLsbD n
          || (s.startup.config.sigin1.activeLines s.pins.sigin1).getLsbD n
          || (s.lines.signals.getLsbD n && (0xFC#8).getLsbD n)
          || (decide (n = 0) && (s.zone.overdueFlag || s.lines.hostTrip))
          || (decide (n = 1) && s.zone.queue.any FeatureRecord.untakenHead)) := by
  obtain ⟨trip, -⟩ := flagBit_getLsbD (s.zone.overdueFlag || s.lines.hostTrip) n
  obtain ⟨-, thread⟩ := flagBit_getLsbD (s.zone.queue.any FeatureRecord.untakenHead) n
  rw [← trip, ← thread]
  simp only [State.sources, BitVec.getLsbD_or, BitVec.getLsbD_and]

end Sys2Proof.Machine
end


section
/-!
The two promises about the train lines (R10, R11, R117, R118, R119), line by line, each with the moves that touch it.
-/

namespace Sys2Proof.Machine

variable {c : Instr} {s u v : State}

/-! ### Contributions and sources -/

/-- Contributions formed afresh agree with their sources wherever they agreed before or were concerned. -/
theorem State.formContributions_follows (u : State) (m : LineMask) (awake : u.startup.station ≠ .stopped) (n : Fin 8)
    (h : m.getLsbD n = false → u.contributions.getLsbD n = u.sources.getLsbD n) :
    (u.formContributions m).contributions.getLsbD n = (u.formContributions m).sources.getLsbD n := by
  rw [State.formContributions_sources, State.formContributions_contributions, if_neg awake]
  simp only [BitVec.getLsbD_or, BitVec.getLsbD_and, BitVec.getLsbD_not, n.isLt, decide_true, Bool.true_and]
  cases hm : m.getLsbD n.val
  · simpa only [Bool.false_and, Bool.not_false, Bool.true_and, Bool.false_or] using h hm
  · simp

/-- The promise of the contributions, line by line (R117). -/
theorem State.linesFollow_iff (u : State) :
    u.LinesFollow ↔ (u.startup.station ≠ .stopped → ∀ n : Fin 8, u.contributions.getLsbD n = u.sources.getLsbD n) :=
  forall_congr' fun _ => ⟨fun h n => by rw [h], LineMask.ext_fin⟩

/-- Forming afresh the contributions of every line whose source may have changed keeps the promise. -/
theorem State.LinesFollow.formed (h : u.LinesFollow) (m : LineMask) (station : v.startup.station = u.startup.station)
    (contributions : v.contributions = u.contributions)
    (sources : ∀ n : Fin 8, m.getLsbD n = false → v.sources.getLsbD n = u.sources.getLsbD n) :
    (v.formContributions m).LinesFollow := by
  rw [State.linesFollow_iff] at h ⊢
  intro awake n
  rw [(v.formContributions_frame m).2.2.1] at awake
  refine v.formContributions_follows m awake n fun hm => ?_
  rw [contributions, sources n hm]
  exact h (station ▸ awake) n

theorem State.LinesFollow.of_eq (h : u.LinesFollow) (station : v.startup.station = u.startup.station)
    (contributions : v.contributions = u.contributions) (sources : v.sources = u.sources) : v.LinesFollow := by
  unfold State.LinesFollow
  rw [station, contributions, sources]
  exact h

/-- What the sources depend on (R10, R11, R118, R119). -/
theorem State.sources_congr (sigin0 : v.startup.config.sigin0 = u.startup.config.sigin0)
    (sigin1 : v.startup.config.sigin1 = u.startup.config.sigin1) (pin0 : v.pins.sigin0 = u.pins.sigin0)
    (pin1 : v.pins.sigin1 = u.pins.sigin1) (signals : v.lines.signals = u.lines.signals)
    (hostTrip : v.lines.hostTrip = u.lines.hostTrip) (flag : v.zone.overdueFlag = u.zone.overdueFlag)
    (heads : v.zone.queue.any FeatureRecord.untakenHead = u.zone.queue.any FeatureRecord.untakenHead) :
    v.sources = u.sources := by
  unfold State.sources
  rw [sigin0, sigin1, pin0, pin1, signals, hostTrip, flag, heads]

/-- Another zone queue can change the THREAD source alone (R11). -/
theorem State.sources_withZone (u : State) (q : List FeatureRecord) (n : Fin 8) (h : threadLine.getLsbD n = false) :
    (u.withZone q).sources.getLsbD n = u.sources.getLsbD n := by
  have other : n ≠ 1 := by rintro rfl; exact absurd h (by decide)
  rw [State.sources_getLsbD, State.sources_getLsbD]
  simp [other]

/-- Another zone can change the TRIP and THREAD sources alone (R10, R11). -/
theorem State.sources_zone (u : State) (z : Zone) (n : Fin 8) (h0 : tripLine.getLsbD n = false)
    (h1 : threadLine.getLsbD n = false) : (State.sources { u with zone := z }).getLsbD n = u.sources.getLsbD n := by
  have ne0 : n ≠ 0 := by rintro rfl; exact absurd h0 (by decide)
  have ne1 : n ≠ 1 := by rintro rfl; exact absurd h1 (by decide)
  rw [State.sources_getLsbD, State.sources_getLsbD]
  simp [ne0, ne1]

/-- Another host TRIP flag can change the TRIP source alone (R118). -/
theorem State.sources_hostTrip (u : State) (flag : Bool) (n : Fin 8) (h : tripLine.getLsbD n = false) :
    (State.sources { u with lines := { u.lines with hostTrip := flag } }).getLsbD n = u.sources.getLsbD n := by
  have other : n ≠ 0 := by rintro rfl; exact absurd h (by decide)
  rw [State.sources_getLsbD, State.sources_getLsbD]
  simp [other]

/-- Other SIGNAL flags can change the sources of the lines named alone (R118). -/
theorem State.sources_signals (u : State) (set clear : LineMask) (n : Fin 8)
    (h : ((set ||| clear) &&& signalLines).getLsbD n = false) :
    (State.sources
        { u with
          lines :=
            { u.lines with
              signals := (u.lines.signals ||| (set &&& signalLines)) &&& ~~~(clear &&& signalLines) } }).getLsbD n
      = u.sources.getLsbD n := by
  rw [State.sources_getLsbD, State.sources_getLsbD]
  simp only [BitVec.getLsbD_and, BitVec.getLsbD_or, BitVec.getLsbD_not, n.isLt, decide_true, Bool.true_and,
    signalLines] at h ⊢
  generalize (0xFC#8).getLsbD n.val = free at h ⊢
  generalize set.getLsbD n.val = sets at h ⊢
  generalize clear.getLsbD n.val = clears at h ⊢
  cases free
  · simp
  · obtain ⟨rfl, rfl⟩ : sets = false ∧ clears = false := by simpa using h
    simp

/-- A map contributes to its own lines alone (R119). -/
theorem PinMap.activeLines_of_not_mem (map : PinMap) (level : Bool) (n : Fin 8) (h : map.lines.getLsbD n = false) :
    (map.activeLines level).getLsbD n = false := by
  unfold PinMap.activeLines
  split_ifs
  · exact h
  · exact BitVec.getLsbD_zero

/-- Another level of a signal input can change the sources of its mapped lines alone (R119). -/
theorem State.sources_sigin (u : State) (input : SignalInput) (level : Bool) (n : Fin 8)
    (h : (u.startup.config.sigin input).lines.getLsbD n = false) :
    (State.sources { u with pins := u.pins.withSigin input level }).getLsbD n = u.sources.getLsbD n := by
  rw [State.sources_getLsbD, State.sources_getLsbD]
  cases input <;>
    simp only [Pins.withSigin, Configuration.sigin] at h ⊢ <;>
    simp only [PinMap.activeLines_of_not_mem _ _ n h]

/-- Another map can change the sources of the lines of a SIGIN map, old and new, alone (R119, R154). -/
theorem State.sources_writeMap (u : State) (item : Nat) (map : PinMap) (n : Fin 8)
    (h : (u.startup.config.mapLines item map).getLsbD n = false) :
    (u.withConfig (u.startup.config.writeMap item map)).sources.getLsbD n = u.sources.getLsbD n := by
  rw [State.sources_getLsbD, State.sources_getLsbD]
  unfold Configuration.mapLines at h
  unfold Configuration.writeMap
  simp only [State.withConfig_fields]
  split at h
  · simp only [BitVec.getLsbD_or, Bool.or_eq_false_iff] at h
    simp only [PinMap.activeLines_of_not_mem _ _ n h.1, PinMap.activeLines_of_not_mem _ _ n h.2]
  · simp only [BitVec.getLsbD_or, Bool.or_eq_false_iff] at h
    simp only [PinMap.activeLines_of_not_mem _ _ n h.1, PinMap.activeLines_of_not_mem _ _ n h.2]
  · split <;> simp_all

/-! ### The exchange leaves contributions -/

theorem State.contributions_congr (h : v.lines.line = u.lines.line) : v.contributions = u.contributions := by
  rw [State.contributions, State.contributions, h]

theorem State.contributions_copiesHigh (u : State) (m : LineMask) (p : Nat) :
    (u.copiesHigh m p).contributions = u.contributions := by
  have written := State.contributions_mapLines u m (TrainLine.withCopy true) fun _ => rfl
  unfold State.copiesHigh
  dsimp only
  split_ifs
  · exact written
  · exact written

theorem State.contributions_copiesLow (u : State) (m : LineMask) (p : Nat) :
    (u.copiesLow m p).contributions = u.contributions := by
  have written := State.contributions_mapLines u m (TrainLine.withCopy false) fun _ => rfl
  unfold State.copiesLow
  dsimp only
  split_ifs
  · exact written
  · exact written

theorem State.contributions_withForeignAsk (u : State) (m : LineMask) (b : Bool) :
    (u.mapLines m (TrainLine.withForeignAsk b)).contributions = u.contributions :=
  State.contributions_mapLines _ _ _ fun _ => rfl

theorem State.contributions_withAsk (u : State) (m : LineMask) (phase : OwnAsk) :
    (u.mapLines m (TrainLine.withAsk phase)).contributions = u.contributions :=
  State.contributions_mapLines _ _ _ fun _ => rfl

/-- A received or sent frame of the exchange changes no contribution (R123, R125, R126, R127). -/
theorem State.contributions_exchange (u : State) (m : LineMask) (p : Nat) (kind : LineKind) :
    (u.lineHeld m p).contributions = u.contributions ∧ (u.lineAsked m).contributions = u.contributions
      ∧ (u.lineDropped m p).contributions = u.contributions
      ∧ (u.lineFrameSent kind m).contributions = u.contributions := by
  refine ⟨?_, ?_, ?_, ?_⟩
  · simp only [State.lineHeld, State.contributions_unmerge, State.contributions_endAsks,
      State.contributions_withForeignAsk, State.contributions_copiesHigh]
  · simp only [State.lineAsked, State.contributions_merge, State.contributions_withForeignAsk]
  · simp only [State.lineDropped, State.contributions_merge, State.contributions_unmerge, State.contributions_withAsk,
      State.contributions_withForeignAsk, State.contributions_copiesLow]
  · cases kind with
    | raise =>
      simp only [State.lineFrameSent, State.raiseSent, State.contributions_beginAsks, State.contributions_withForeignAsk,
        State.contributions_copiesHigh, State.contributions_unmerge]
    | ask => exact State.contributions_mapLines _ _ _ fun _ => rfl
    | veto => exact State.contributions_mapLines _ _ _ fun _ => rfl
    | drop =>
      simp only [State.lineFrameSent, State.dropSent, State.contributions_merge, State.contributions_withAsk,
        State.contributions_withForeignAsk, State.contributions_copiesLow, State.contributions_unmerge]

/-! ### The entry procedure and removals form THREAD -/

/-- The fourth step of entry keeps the promise, but for THREAD, which the entry procedure forms last (R7, R11). -/
theorem State.LinesFollow.makeRoom (h : u.LinesFollow) (awake : u.startup.station ≠ .stopped) (n : Fin 8)
    (hn : threadLine.getLsbD n = false) : u.makeRoom.contributions.getLsbD n = u.makeRoom.sources.getLsbD n := by
  have agree := u.linesFollow_iff.mp h awake n
  unfold State.makeRoom
  split_ifs
  · exact agree
  · split
    · exact agree
    · rename_i front rest stands
      refine State.formContributions_follows _ _ (by simpa using awake) n fun ht => ?_
      exact agree.trans (State.sources_zone u _ n ht hn).symm

/-- The entry procedure keeps the promise (R10, R11). -/
theorem State.LinesFollow.enterZone (h : u.LinesFollow) (awake : u.startup.station ≠ .stopped) (r : FeatureRecord) :
    (u.enterZone r).LinesFollow := by
  rw [State.linesFollow_iff]
  intro _ n
  have posted : (u.postAll (sequenceActions u.zone.queue r)).LinesFollow :=
    h.of_eq (by simp) (State.contributions_congr (by simp))
      (State.sources_congr (by simp) (by simp) (by simp) (by simp) (by simp) (by simp) (by simp) (by simp))
  refine State.formContributions_follows _ _ (by simpa using awake) n fun hn => ?_
  exact (posted.makeRoom (by simpa using awake) n hn).trans (State.sources_withZone _ _ n hn).symm

/-- Every move keeps the promise of the contributions. -/
theorem State.LinesFollow.step (h : u.LinesFollow) (quiet : s.Quiet) (move : Move c s u v) : v.LinesFollow := by
  cases move with
  | pins p sigin0 sigin1 => exact h.of_eq rfl rfl (State.sources_congr rfl rfl sigin0 sigin1 rfl rfl rfl rfl)
  | entered r tracks => exact h.enterZone (tracks.awake quiet) r
  | removed ahead r behind cls own awake stands =>
    exact h.formed _ (by simp) (State.contributions_congr (by simp)) fun n hn =>
      (State.sources_withZone _ _ n hn).trans (congrArg (fun x => x.getLsbD n.val)
        (State.sources_congr (by simp) (by simp) (by simp) (by simp) (by simp) (by simp) (by simp) (by simp)))
  | changed ahead r r' behind awake stands kind place head =>
    exact h.of_eq rfl rfl (State.sources_congr rfl rfl rfl rfl rfl rfl rfl (by simp [stands, head]))
  | ceiling =>
    refine h.of_eq rfl rfl (State.sources_congr rfl rfl rfl rfl rfl rfl rfl ?_)
    have held (r : FeatureRecord) : (holdAtCeiling u.travel.z r).untakenHead = r.untakenHead := by
      unfold holdAtCeiling
      split_ifs <;> rfl
    simp [List.any_map, Function.comp_def, held]
  | overdue =>
    refine h.formed _ rfl rfl fun n hn => ?_
    have other : n ≠ 0 := by rintro rfl; exact absurd hn (by decide)
    rw [State.sources_getLsbD, State.sources_getLsbD]
    simp [other]
  | cleared =>
    refine State.LinesFollow.of_eq (u := State.formContributions _ (tripLine ||| threadLine)) ?_ rfl rfl rfl
    refine h.formed _ rfl rfl fun n hn => ?_
    simp only [BitVec.getLsbD_or, Bool.or_eq_false_iff] at hn
    exact State.sources_zone u _ n hn.1 hn.2
  | lineHeld m p => exact h.of_eq (by simp) (u.contributions_exchange m p .raise).1 (by simp [State.sources])
  | lineAsked m => exact h.of_eq (by simp) (u.contributions_exchange m 0 .raise).2.1 (by simp [State.sources])
  | lineDropped m p => exact h.of_eq (by simp) (u.contributions_exchange m p .raise).2.2.1 (by simp [State.sources])
  | slotSent kind m =>
    exact h.of_eq (by simp) (u.endFlight.contributions_exchange m 0 kind).2.2.2 (by simp [State.sources])
  | windowsEnd m => exact h.of_eq (by simp) (State.contributions_withAsk _ _ _) (by simp [State.sources])
  | sigin input level => exact h.formed _ rfl rfl fun n hn => u.sources_sigin input level n hn
  | hostTrip flag => exact h.formed _ rfl rfl fun n hn => u.sources_hostTrip flag n hn
  | signals set clear =>
    unfold State.signal
    split_ifs
    · exact h
    · refine State.LinesFollow.of_eq (u := State.formContributions _ ((set ||| clear) &&& signalLines)) ?_ rfl rfl rfl
      exact h.formed _ rfl rfl fun n hn => u.sources_signals set clear n hn
  | mapConfigured item map => exact h.formed _ rfl rfl fun n hn => u.sources_writeMap item map n hn
  | numberConfigured item value written =>
    refine h.of_eq rfl rfl ?_
    simp only [State.sources, State.withConfig_fields]
    unfold Configuration.writeItem
    split <;> rfl
  | claiming position command unset =>
    intro
    exact h (by simp [unset])
  | placed command claiming =>
    intro
    rw [State.contributions_congr (u := u) (by simp)]
    exact (h (by simp [claiming])).trans
      (State.sources_congr (by simp) (by simp) (by simp) (by simp) (by simp) (by simp) (by simp) (by simp)).symm
  | stopped => exact fun awake => absurd rfl awake
  | closed command placed =>
    intro
    rw [State.contributions_congr (u := u) (by simp)]
    exact (h (by simp [placed])).trans
      (State.sources_congr (by simp [Configuration.closed]) (by simp [Configuration.closed]) (by simp) (by simp) (by simp)
        (by simp) (by simp) (by simp)).symm
  | parked command tracking =>
    intro
    exact h (by simp [tracking])
  | resumed command parked =>
    intro
    rw [State.contributions_congr (u := u) (by simp)]
    exact (h (by simp [parked])).trans
      (State.sources_congr (by simp) (by simp) (by simp) (by simp) (by simp) (by simp) (by simp) (by simp)).symm
  | reset straps chainIn =>
    intro
    have none (level : Bool) : PinMap.empty.activeLines level = 0#8 := by
      unfold PinMap.activeLines
      split_ifs <;> rfl
    simp only [State.sources, State.contributions, State.afterReset_frame, Configuration.default, none]
    rfl
  | _ =>
    exact h.of_eq (by simp) (State.contributions_congr (by simp))
      (State.sources_congr (by simp) (by simp) (by simp) (by simp) (by simp) (by simp) (by simp) (by simp))

end Sys2Proof.Machine
end


section
/-!
What the exchange of the train lines does to each line (R120, R123, R125 to R127), and the promise that the copy of a line with
a set contribution is high or a RAISE is on its way (R117).
-/

namespace Sys2Proof.Machine

variable {c : Instr} {s u v : State}

/-! ### The exchange, line by line -/

theorem State.view_copiesHigh (u : State) (m : LineMask) (p : Nat) (n : Fin 8) :
    (u.copiesHigh m p).view n
      = { u.view n with line := if m.getLsbD n then (u.view n).line.withCopy true else (u.view n).line } := by
  refine Eq.trans ?_ (u.view_mapLines m (TrainLine.withCopy true) n)
  unfold State.copiesHigh
  dsimp only
  split_ifs <;> rfl

theorem State.view_copiesLow (u : State) (m : LineMask) (p : Nat) (n : Fin 8) :
    (u.copiesLow m p).view n
      = { u.view n with line := if m.getLsbD n then (u.view n).line.withCopy false else (u.view n).line } := by
  refine Eq.trans ?_ (u.view_mapLines m (TrainLine.withCopy false) n)
  unfold State.copiesLow
  dsimp only
  split_ifs <;> rfl

/-- A received RAISE or VETO, line by line (R125). -/
theorem State.view_lineHeld (u : State) (m : LineMask) (p : Nat) (n : Fin 8) :
    (u.lineHeld m p).view n = if m.getLsbD n then (u.view n).held else u.view n := by
  simp only [State.lineHeld, State.view_unmerge, State.view_endAsks, State.view_mapLines, State.view_copiesHigh,
    LineView.unmerged, LineView.held, LineView.endAsk, TrainLine.withCopy, TrainLine.withForeignAsk]
  cases m.getLsbD n.val <;> simp

/-- A received DROP, line by line (R127). -/
theorem State.view_lineDropped (u : State) (m : LineMask) (p : Nat) (n : Fin 8) :
    (u.lineDropped m p).view n = if m.getLsbD n then (u.view n).dropped else u.view n := by
  have masks := u.masks_view n
  simp only [State.lineDropped, State.view_merge, State.view_unmerge, State.view_mapLines, State.view_copiesLow,
    BitVec.getLsbD_and, masks, LineView.merged, LineView.unmerged, LineView.dropped, TrainLine.withCopy,
    TrainLine.withForeignAsk, TrainLine.withAsk]
  cases m.getLsbD n.val <;> simp

/-- An own frame that is sent, line by line (R123). -/
theorem State.view_lineFrameSent (u : State) (kind : LineKind) (m : LineMask) (n : Fin 8) :
    (u.lineFrameSent kind m).view n
      = if m.getLsbD n then (u.view n).sent (u.now + vetoWindowTime u.startup.straps) kind else u.view n := by
  have masks := (u.unmerge kind m).masks_view n
  have window : (u.unmerge kind m).now + vetoWindowTime (u.unmerge kind m).startup.straps
      = u.now + vetoWindowTime u.startup.straps := by simp
  cases kind with
  | raise =>
    simp only [State.lineFrameSent, State.raiseSent, State.view_beginAsks, State.view_mapLines, State.view_copiesHigh,
      BitVec.getLsbD_and, BitVec.getLsbD_not, n.isLt, decide_true, Bool.true_and, masks, State.view_unmerge,
      LineView.unmerged, LineView.sent, LineView.asks, TrainLine.withCopy, TrainLine.withForeignAsk]
    cases m.getLsbD n.val <;> cases (u.view n).line.contribution <;> simp
  | ask =>
    simp only [State.lineFrameSent, State.askSent, State.view_mapLines, BitVec.getLsbD_and, masks, window,
      State.view_unmerge, LineView.unmerged, LineView.sent, TrainLine.openWindow]
    cases m.getLsbD n.val <;> cases (u.view n).line.ask <;> simp
  | veto =>
    simp only [State.lineFrameSent, State.vetoSent, State.view_mapLines, State.view_unmerge, LineView.unmerged,
      LineView.sent, TrainLine.withForeignAsk]
    cases m.getLsbD n.val <;> simp
  | drop =>
    simp only [State.lineFrameSent, State.dropSent, State.view_merge, State.view_mapLines, State.view_copiesLow,
      BitVec.getLsbD_and, masks, State.view_unmerge, LineView.merged, LineView.unmerged, LineView.sent,
      TrainLine.withCopy, TrainLine.withForeignAsk, TrainLine.withAsk]
    cases m.getLsbD n.val <;> simp

/-- The lines of an unsent RAISE, line by line (R120). -/
theorem State.view_returnLines_raise (u : State) (m : LineMask) (filledAt : Nat) (n : Fin 8) :
    (u.returnLines .raise m filledAt).view n = if m.getLsbD n then (u.view n).returned .raise else u.view n := by
  have masks := u.masks_view n
  have raise : (u.returnLines .raise m filledAt).view n
      = { u.view n with raise := (u.view n).raise || (u.stillCalls .raise m).getLsbD n } := by
    simp only [State.returnLines, State.view, State.modifySlot_fields, Slots.modify, Slot.giveBack_mask, BitVec.getLsbD_or]
  rw [raise]
  simp only [State.stillCalls, BitVec.getLsbD_and, BitVec.getLsbD_not, n.isLt, decide_true, Bool.true_and, masks,
    LineView.returned, LineView.calls]
  cases m.getLsbD n.val <;> simp

/-! ### The promise of the copies -/

/-- The lines of a RAISE of this station that is being sent (R120). -/
def State.flyingRaise (u : State) : LineMask :=
  match u.mill.flight with
  | some { source := .slot .raise m _, wire := _ } => m
  | _ => 0#8

/-- A line with a set contribution has a high copy, or a RAISE for it waits or is being sent (R117). -/
def LineView.Covered (flying : Bool) (v : LineView) : Prop :=
  v.line.contribution = true → v.line.copy = true ∨ v.raise = true ∨ flying = true

theorem covered_iff : ∀ contribution copy raise flying : Bool,
    (contribution && !(copy || (raise || flying))) = false
      ↔ (contribution = true → copy = true ∨ raise = true ∨ flying = true) := by
  decide

/-- The promise of the copies, line by line (R117). -/
theorem State.linesHeld_iff (u : State) :
    u.LinesHeld ↔
      (u.startup.station.operating = true → ∀ n : Fin 8, (u.view n).Covered (u.flyingRaise.getLsbD n)) := by
  have line (n : Fin 8) :
      (u.contributions &&& ~~~(u.copies ||| u.raising)).getLsbD n = false
        ↔ (u.view n).Covered (u.flyingRaise.getLsbD n) := by
    have raising : u.raising.getLsbD n = ((u.view n).raise || u.flyingRaise.getLsbD n) := BitVec.getLsbD_or
    simp only [BitVec.getLsbD_and, BitVec.getLsbD_not, BitVec.getLsbD_or, n.isLt, decide_true, Bool.true_and,
      u.masks_view n, raising]
    exact covered_iff _ _ _ _
  refine forall_congr' fun _ => ⟨fun h n => (line n).mp ?_, fun h => LineMask.ext_fin fun n => ?_⟩
  · rw [h, BitVec.getLsbD_zero]
  · rw [(line n).mpr (h n), BitVec.getLsbD_zero]

theorem State.flyingRaise_congr (h : v.mill.flight = u.mill.flight) : v.flyingRaise = u.flyingRaise := by
  rw [State.flyingRaise, State.flyingRaise, h]

/-- A move that leaves the frame in flight and keeps every line covered keeps the promise. -/
theorem State.LinesHeld.of_views (h : u.LinesHeld)
    (operating : v.startup.station.operating = true → u.startup.station.operating = true)
    (flight : v.mill.flight = u.mill.flight)
    (views :
      ∀ (n : Fin 8) (f : Bool), u.startup.station.operating = true → (u.view n).Covered f → (v.view n).Covered f) :
    v.LinesHeld := by
  rw [State.linesHeld_iff] at h ⊢
  intro op n
  rw [State.flyingRaise_congr flight]
  exact views n _ (operating op) (h (operating op) n)

/-- A move that leaves the lines, their slots and the frame in flight keeps the promise. -/
theorem State.LinesHeld.of_eq (h : u.LinesHeld)
    (operating : v.startup.station.operating = true → u.startup.station.operating = true)
    (lines : v.lines.line = u.lines.line) (slots : v.mill.slots = u.mill.slots) (flight : v.mill.flight = u.mill.flight) :
    v.LinesHeld :=
  h.of_views operating flight fun n f _ covered => by rwa [State.view_congr lines slots]

/-- A line formed afresh is covered: a rise merges a RAISE unless the copy is high (R121). -/
theorem LineView.Covered.formed {f : Bool} {w : LineView} (h : w.Covered f) (source : Bool) :
    (w.formed source).Covered f := by
  unfold LineView.formed
  split_ifs
  · unfold LineView.rises LineView.Covered
    split_ifs with copy
    · exact fun _ => .inl copy
    · exact fun _ => .inr (.inl rfl)
  · unfold LineView.falls LineView.Covered
    dsimp only
    split_ifs <;> exact fun contributes => absurd contributes (by simp [LineView.asks])
  · exact h

/-- Contributions formed afresh keep the promise (R121, R122). -/
theorem State.LinesHeld.formed (h : u.LinesHeld) (m : LineMask) : (u.formContributions m).LinesHeld := by
  refine h.of_views (by simp) (by simp) fun n f operating covered => ?_
  rw [u.view_formContributions m operating]
  split_ifs
  · exact covered.formed _
  · exact covered

/-- The fourth step of entry keeps the promise (R7, R10). -/
theorem State.LinesHeld.makeRoom (h : u.LinesHeld) : u.makeRoom.LinesHeld := by
  unfold State.makeRoom
  split_ifs
  · exact h
  · split
    · exact h
    · apply State.LinesHeld.formed
      exact h.of_eq (by simp) (by simp) (by simp) (by simp)

/-- The entry procedure keeps the promise (R10, R11). -/
theorem State.LinesHeld.enterZone (h : u.LinesHeld) (r : FeatureRecord) : (u.enterZone r).LinesHeld := by
  have posted : (u.postAll (sequenceActions u.zone.queue r)).LinesHeld := h.of_eq (by simp) (by simp) (by simp) (by simp)
  unfold State.enterZone
  apply State.LinesHeld.formed
  exact posted.makeRoom.of_eq (by simp) (by simp) (by simp) (by simp)

/-- A frame of the line's own that is sent or received keeps the line covered (R123, R125, R127). -/
theorem LineView.Covered.exchange {f : Bool} {w : LineView} (h : w.Covered f) :
    w.held.Covered f ∧ w.dropped.Covered f ∧ (∀ windowEnd, (w.sent windowEnd .raise).Covered false)
      ∧ ∀ windowEnd kind, kind ≠ .raise → (w.sent windowEnd kind).Covered f := by
  refine ⟨fun _ => .inl rfl, fun contributes => .inr (.inl ?_), fun windowEnd _ => .inl ?_, fun windowEnd kind other => ?_⟩
  · exact Bool.or_eq_true_iff.mpr (.inr contributes)
  · unfold LineView.sent
    dsimp only
    split_ifs <;> rfl
  · cases kind with
    | raise => exact absurd rfl other
    | ask =>
      unfold LineView.sent
      dsimp only
      split_ifs <;> exact h
    | veto => exact h
    | drop => exact fun contributes => .inr (.inl (Bool.or_eq_true_iff.mpr (.inr contributes)))

/-- A line whose RAISE comes back unsent is covered by the slot to which it returns (R120). -/
theorem LineView.returned_covered (w : LineView) : (w.returned .raise).Covered false := by
  intro contributes
  cases copy : w.line.copy
  · exact .inr (.inl (Bool.or_eq_true_iff.mpr (.inr (by simp_all [LineView.calls, LineView.returned]))))
  · exact .inl copy

/-- Every move keeps the promise of the copies. -/
theorem State.LinesHeld.step (h : u.LinesHeld) (move : Move c s u v) : v.LinesHeld := by
  cases move with
  | entered r => exact h.enterZone r
  | removed ahead r behind cls own =>
    unfold State.remove
    apply State.LinesHeld.formed
    exact h.of_eq (by simp) (by simp) (by simp) (by simp)
  | overdue =>
    unfold State.setOverdueFlag
    apply State.LinesHeld.formed
    exact h.of_eq id rfl rfl rfl
  | cleared =>
    unfold State.clearTrack
    refine State.LinesHeld.of_eq (State.LinesHeld.formed ?_ (tripLine ||| threadLine)) id rfl rfl rfl
    exact h.of_eq id rfl rfl rfl
  | sigin input level =>
    apply State.LinesHeld.formed
    exact h.of_eq id rfl rfl rfl
  | hostTrip flag =>
    unfold State.setHostTrip
    apply State.LinesHeld.formed
    exact h.of_eq id rfl rfl rfl
  | signals set clear =>
    unfold State.signal
    split_ifs
    · exact h
    · refine State.LinesHeld.of_eq (State.LinesHeld.formed ?_ ((set ||| clear) &&& signalLines)) id rfl rfl rfl
      exact h.of_eq id rfl rfl rfl
  | mapConfigured item map =>
    apply State.LinesHeld.formed
    exact h.of_eq id rfl rfl rfl
  | slotLaunched kind filledAt wire awake free =>
    rw [State.linesHeld_iff] at h ⊢
    intro operating n contributes
    have covered := h operating n contributes
    have flying : u.flyingRaise = 0#8 := by simp [State.flyingRaise, free]
    rw [flying] at covered
    cases kind <;> simpa [State.flyingRaise, State.view, Slots.modify, Slots.get, Slot.empty] using covered
  | placeLaunched body wire awake free =>
    rw [State.linesHeld_iff] at h ⊢
    intro operating n contributes
    have covered := h operating n contributes
    have flying : u.flyingRaise = 0#8 := by simp [State.flyingRaise, free]
    rw [flying] at covered
    exact covered
  | placeLanded body wire awake flying =>
    rw [State.linesHeld_iff] at h ⊢
    intro operating n contributes
    have covered := h operating n contributes
    have still : u.flyingRaise = 0#8 := by simp [State.flyingRaise, flying]
    rw [still] at covered
    exact covered
  | slotSent kind m filledAt wire awake flying =>
    rw [State.linesHeld_iff] at h ⊢
    intro operating n
    have covered := h (by simpa using operating) n
    rw [State.view_lineFrameSent, State.flyingRaise_congr (u := u.endFlight) (by simp)]
    cases kind with
    | raise =>
      have before : u.flyingRaise = m := by simp [State.flyingRaise, flying]
      have after : u.endFlight.flyingRaise = 0#8 := rfl
      rw [before] at covered
      rw [after, BitVec.getLsbD_zero]
      split_ifs with hn
      · exact covered.exchange.2.2.1 _
      · rwa [Bool.eq_false_of_not_eq_true hn] at covered
    | ask | veto | drop =>
      have still : u.flyingRaise = u.endFlight.flyingRaise := by simp [State.flyingRaise, flying]
      rw [still] at covered
      split_ifs
      · exact covered.exchange.2.2.2 _ _ LineKind.noConfusion
      · exact covered
  | slotReturned kind m filledAt wire awake flying =>
    rw [State.linesHeld_iff] at h ⊢
    intro operating n
    have covered := h (by simpa using operating) n
    rw [State.flyingRaise_congr (u := u.endFlight) (by simp)]
    cases kind with
    | raise =>
      have before : u.flyingRaise = m := by simp [State.flyingRaise, flying]
      have after : u.endFlight.flyingRaise = 0#8 := rfl
      rw [before] at covered
      rw [after, BitVec.getLsbD_zero, State.view_returnLines_raise]
      split_ifs with hn
      · exact LineView.returned_covered _
      · rwa [Bool.eq_false_of_not_eq_true hn] at covered
    | ask | veto | drop =>
      have still : u.flyingRaise = u.endFlight.flyingRaise := by simp [State.flyingRaise, flying]
      rw [still] at covered
      exact covered
  | lineHeld m p =>
    refine h.of_views (by simp) (by simp) fun n f _ covered => ?_
    rw [State.view_lineHeld]
    split_ifs
    · exact covered.exchange.1
    · exact covered
  | lineAsked m => 
    refine h.of_views (by simp) (by simp) fun n f _ covered => ?_
    simpa [State.lineAsked, LineView.merged, LineView.Covered, TrainLine.withForeignAsk, apply_ite TrainLine.contribution,
      apply_ite TrainLine.copy] using covered
  | lineDropped m p =>
    refine h.of_views (by simp) (by simp) fun n f _ covered => ?_
    rw [State.view_lineDropped]
    split_ifs
    · exact covered.exchange.2.1
    · exact covered
  | windowsEnd m =>
    refine h.of_views (by simp) (by simp) fun n f _ covered => ?_
    simpa [LineView.merged, LineView.Covered, TrainLine.withAsk, apply_ite TrainLine.contribution,
      apply_ite TrainLine.copy] using covered
  | claiming position command unset => exact fun operating => absurd operating (by simp [StationState.operating])
  | placed command claiming =>
    rw [State.linesHeld_iff]
    intro _ n contributes
    refine .inr (.inl ?_)
    unfold State.enterPlaced at contributes ⊢
    rw [State.view_merge] at contributes ⊢
    exact Bool.or_eq_true_iff.mpr (.inr ((State.masks_view _ n).2.1.trans contributes))
  | stopped => exact fun operating => absurd operating (by simp [StationState.operating])
  | closed command placed => exact h.of_eq (by simp [placed, StationState.operating]) (by simp) (by simp) (by simp)
  | parked command tracking => exact h.of_eq (by simp [tracking, StationState.operating]) rfl rfl rfl
  | resumed command parked => exact h.of_eq (by simp [parked, StationState.operating]) (by simp) (by simp) (by simp)
  | reset straps chainIn =>
    intro operating
    cases hf : straps.first <;> simp [hf, StationState.operating] at operating
  | receiver m queue slots flight => exact h.of_eq id rfl slots flight
  | _ => exact h.of_eq (by simp) (by simp) (by simp) (by simp)

/-- Settles O57: the two promises one by one, over the moves of a command. -/
theorem trainLinesAreKept : Obligations.TrainLinesAreKept := by
  intro c s t held follow quiet stationed h
  exact ⟨exec_keeps State.LinesHeld (fun _ _ move p => p.step move) held h,
    exec_keeps State.LinesFollow (fun _ _ move p => p.step quiet move) follow h⟩

end Sys2Proof.Machine
end


section
/-!
The order of the zone queue and the position ceiling (R3, R5, R8, R30, R34).
-/

namespace Sys2Proof.Machine

variable {c : Instr} {s u v t : State}

/-! ### Positions -/

/-- The position of a record that enters: its own, held behind the youngest (R2, R5). -/
theorem enteredRecord_position_le (z : TravelWord) (queue : List FeatureRecord) (r : FeatureRecord) :
    (enteredRecord z queue r).position z ≤ r.position z
      ∧ ∀ y, queue.getLast? = some y → (enteredRecord z queue r).position z ≤ y.position z := by
  have demoted : (demote queue r).position z = r.position z := by
    unfold demote
    split_ifs <;> rfl
  unfold enteredRecord clampEntry youngest
  cases queue.getLast? with
  | none => exact ⟨demoted.le, fun y hy => absurd hy (by simp)⟩
  | some x =>
    dsimp only
    split_ifs with ahead
    · exact ⟨(demoted ▸ ahead).le, fun y hy => Option.some.inj hy ▸ le_refl _⟩
    · exact ⟨demoted.le, fun y hy => Option.some.inj hy ▸ not_lt.mp ahead⟩

/-- In an ordered queue no record stands behind the youngest (R3). -/
theorem inOrder.youngest_le {z : TravelWord} {queue : List FeatureRecord} (order : inOrder z queue) {a y : FeatureRecord}
    (ha : a ∈ queue) (hy : queue.getLast? = some y) : y.position z ≤ a.position z := by
  obtain ⟨front, rfl⟩ := List.getLast?_eq_some_iff.mp hy
  obtain ha | ha := List.mem_append.mp ha
  · exact (List.pairwise_append.mp order).2.2 a ha y (List.mem_singleton.mpr rfl)
  · rw [List.mem_singleton.mp ha]

/-- The record that enters stands behind every record of an ordered queue (R3, R5). -/
theorem inOrder.enteredRecord_le {z : TravelWord} {queue : List FeatureRecord} (order : inOrder z queue)
    (r : FeatureRecord) {a : FeatureRecord} (ha : a ∈ queue) :
    (enteredRecord z queue r).position z ≤ a.position z := by
  obtain ⟨y, hy⟩ : ∃ y, queue.getLast? = some y := ⟨_, List.getLast?_eq_some_getLast (List.ne_nil_of_mem ha)⟩
  exact ((enteredRecord_position_le z queue r).2 y hy).trans (order.youngest_le ha hy)

/-- The entry procedure keeps the order (R3, R5). -/
theorem inOrder.enterZone (order : inOrder u.travel.z u.zone.queue) (r : FeatureRecord) :
    inOrder u.travel.z (u.enterZone r).zone.queue := by
  have behind (l : List FeatureRecord) (sub : l.Sublist u.zone.queue) :
      inOrder u.travel.z (l ++ [enteredRecord u.travel.z u.zone.queue r]) :=
    List.pairwise_append.mpr ⟨order.sublist sub, List.pairwise_singleton _ _, fun a ha e he =>
      List.mem_singleton.mp he ▸ order.enteredRecord_le r (sub.subset ha)⟩
  rw [State.enterZone_queue]
  split_ifs
  · exact behind _ (List.Sublist.refl _)
  · exact behind _ (List.tail_sublist _)

/-- A record held at the ceiling stands at its position or at the ceiling, whichever is less (R30). -/
theorem holdAtCeiling_position (z : TravelWord) (r : FeatureRecord) :
    (holdAtCeiling z r).position z = min (2 ^ 47) (r.position z) := by
  unfold holdAtCeiling
  by_cases beyond : Config.positionCeiling < r.position z
  · rw [if_pos beyond]
    have held : (z - (z - BitVec.ofNat 48 (2 ^ 47))).toNat = 2 ^ 47 := by
      rw [sub_sub_cancel]
      rfl
    exact held.trans (Nat.min_eq_left (le_of_lt beyond)).symm
  · rw [if_neg beyond]
    exact (Nat.min_eq_right (not_lt.mp beyond)).symm

/-- The ceiling keeps the order and brings every record to or below it (R30). -/
theorem inOrder.held {z : TravelWord} {queue : List FeatureRecord} (order : inOrder z queue) :
    inOrder z (queue.map (holdAtCeiling z)) ∧ belowCeiling z (queue.map (holdAtCeiling z)) := by
  refine ⟨List.pairwise_map.mpr (order.imp fun le => ?_), fun r hr => ?_⟩
  · rw [holdAtCeiling_position, holdAtCeiling_position]
    exact min_le_min_left _ le
  · obtain ⟨q, -, rfl⟩ := List.mem_map.mp hr
    rw [holdAtCeiling_position]
    exact Nat.min_le_left _ _

/-! ### Moves at one strip travel -/

/-- The commands that move the strip travel: a counted pulse, CLOSE and hardware reset (R20, R23). -/
def movesTravel : Instr → Bool
  | .encoderPulse _ => true
  | .close _ _ => true
  | .hardwareReset _ _ => true
  | _ => false

/-- Every other command leaves the strip travel and its advance. -/
theorem Move.travel_eq (hc : movesTravel c = false) (move : Move c s u v) :
    v.travel.z = u.travel.z ∧ v.travel.aLast = u.travel.aLast := by
  cases move with
  | pulse command => obtain ⟨dt, rfl⟩ := command; exact absurd hc (by simp [movesTravel])
  | closed command => obtain ⟨dt, params, rfl⟩ := command; exact absurd hc (by simp [movesTravel])
  | reset straps chainIn command => subst command; exact absurd hc (by simp [movesTravel])
  | _ => simp

/-- Every other command keeps the order (R3). -/
theorem Move.order (hc : movesTravel c = false) (move : Move c s u v) (order : inOrder u.travel.z u.zone.queue) :
    inOrder v.travel.z v.zone.queue := by
  rw [(move.travel_eq hc).1]
  cases move with
  | entered r => exact order.enterZone r
  | removed ahead r behind cls own awake stands =>
    rw [State.remove_queue]
    exact order.sublist (stands ▸ (List.sublist_cons_self r behind).trans (List.sublist_append_right ahead _))
  | changed ahead r r' behind awake stands kind place =>
    rw [stands] at order
    have same : r'.position u.travel.z = r.position u.travel.z := by simp only [FeatureRecord.position, place]
    simpa [inOrder, List.pairwise_append, same] using order
  | ceiling => exact order.held.1
  | cleared => simp [inOrder]
  | reset straps chainIn => simp [inOrder, State.reset]
  | _ => simpa using order

/-- Every other command keeps the records at or below the ceiling while what it enters stands there (R30). -/
theorem Move.below (hc : movesTravel c = false) (move : Move c s u v) (below : belowCeiling u.travel.z u.zone.queue)
    (dated : ∀ z, s.Dated u z → (u.travel.z - z).toNat ≤ 2 ^ 47) : belowCeiling v.travel.z v.zone.queue := by
  rw [(move.travel_eq hc).1]
  cases move with
  | entered r tracks proper date =>
    intro q hq
    rw [State.enterZone_queue, List.mem_append, List.mem_singleton] at hq
    obtain hq | rfl := hq
    · split_ifs at hq
      · exact below q hq
      · exact below q (List.mem_of_mem_tail hq)
    · exact (enteredRecord_position_le _ _ r).1.trans (dated _ date)
  | removed ahead r behind cls own awake stands =>
    rw [State.remove_queue]
    exact fun q hq => below q (stands ▸ List.mem_append_right _ (List.mem_cons_of_mem _ hq))
  | changed ahead r r' behind awake stands kind place =>
    rw [stands] at below
    have same : r'.position u.travel.z = r.position u.travel.z := by simp only [FeatureRecord.position, place]
    intro q hq
    simp only [State.withZone_fields, List.mem_append, List.mem_cons] at hq
    obtain hq | rfl | hq := hq
    · exact below q (List.mem_append_left _ hq)
    · exact same ▸ below r (List.mem_append_right _ List.mem_cons_self)
    · exact below q (List.mem_append_right _ (List.mem_cons_of_mem _ hq))
  | ceiling =>
    intro q hq
    obtain ⟨r, hr, rfl⟩ := List.mem_map.mp hq
    rw [holdAtCeiling_position]
    exact Nat.min_le_left _ _
  | cleared => simp [belowCeiling]
  | reset straps chainIn => simp [belowCeiling, State.reset]
  | _ => simpa using below

/-! ### Back-projection -/

/-- The start-of-frame latch with the largest back-projection lies within the ceiling behind the strip travel (R33, R34). -/
def State.sofWithin (u : State) : Prop := (u.travel.z - u.mill.sof.z).toNat + 65535 * u.mill.sof.aLast ≤ 2 ^ 47

/-- An event projected back from such a latch lies within the ceiling (R34). -/
theorem State.sofWithin.eventZ (h : u.sofWithin) {age : Nat} (hage : age ≤ 65535) :
    (u.travel.z - eventZ u.mill.sof age).toNat ≤ 2 ^ 47 := by
  have back : stripBack u.mill.sof age ≤ 65535 * u.mill.sof.aLast := by
    unfold stripBack
    split_ifs
    · exact Nat.zero_le _
    · exact (Nat.div_le_self _ _).trans (Nat.mul_le_mul_right _ hage)
  unfold State.sofWithin at h
  have apart : u.travel.z - Machine.eventZ u.mill.sof age
      = (u.travel.z - u.mill.sof.z) + BitVec.ofNat 48 (stripBack u.mill.sof age) := by
    unfold Machine.eventZ
    exact (sub_add _ _ _).symm
  rw [apart, BitVec.toNat_add, BitVec.toNat_ofNat]
  omega

/-! ### Every event -/

/-- What stands of the zone between the moves of a command that leaves the strip travel (R3, R30, R33). -/
structure State.Laid (s u : State) : Prop where
  travel : u.travel.z = s.travel.z
  advance : u.travel.aLast ≤ 5120001
  order : inOrder u.travel.z u.zone.queue
  below : belowCeiling u.travel.z u.zone.queue
  sof : u.sofWithin

/-- Every move of a command that leaves the strip travel keeps the order, the ceiling and the reach of the latch. -/
theorem State.Laid.step (h : s.Laid u) (hc : movesTravel c = false)
    (latch : ∀ l : EdgeLatch, s.sensing.load = .qualRise l ∨ s.sensing.load = .qualFall l →
      (s.travel.z - l.z).toNat ≤ 2 ^ 47)
    (move : Move c s u v) : s.Laid v := by
  obtain ⟨travel, advance⟩ := move.travel_eq hc
  have dated (z : TravelWord) (hz : s.Dated u z) : (u.travel.z - z).toNat ≤ 2 ^ 47 := by
    obtain rfl | ⟨l, hl, rfl⟩ | ⟨age, hage, rfl⟩ := hz
    · simp
    · exact h.travel ▸ latch l hl
    · exact h.sof.eventZ hage
  have kept (e : v.mill.sof = u.mill.sof) : v.sofWithin := by
    unfold State.sofWithin
    rw [travel, e]
    exact h.sof
  refine ⟨travel.trans h.travel, advance ▸ h.advance, move.order hc h.order, move.below hc h.below dated, ?_⟩
  cases move with
  | receiver m queue slots flight txErrors txOverflows sof =>
    obtain same | fresh := sof
    · exact kept same
    · have := h.advance
      unfold State.sofWithin
      rw [fresh]
      simp only [State.sofNow, BitVec.sub_self, BitVec.toNat_zero]
      omega
  | reset straps chainIn command => subst command; exact absurd hc (by simp [movesTravel])
  | _ => exact kept (by simp)

/-- The comparisons of a pulse keep the order (R8). -/
theorem State.compareZone_order (u : State) (awake : u.startup.station ≠ .stopped)
    (order : inOrder u.travel.z u.zone.queue) :
    (u.compareZone [] u.zone.queue).travel.z = u.travel.z
      ∧ inOrder u.travel.z (u.compareZone [] u.zone.queue).zone.queue := by
  have moves : Moves .stallExpiry u u (u.compareZone [] u.zone.queue) := compareZone_moves [] _ (awake_of_ne awake) rfl
  generalize u.compareZone [] u.zone.queue = w at moves
  induction moves with
  | refl => exact ⟨rfl, order⟩
  | tail _ move ih =>
    obtain ⟨travel, kept⟩ := ih
    have next := move.order rfl (travel ▸ kept)
    rw [(move.travel_eq rfl).1, travel] at next
    exact ⟨(move.travel_eq rfl).1.trans travel, next⟩

/-- A pulse carries every record at or below the ceiling the same way, and none across the modulus (R23, R24). -/
theorem position_add {z : TravelWord} {r : FeatureRecord} {advance : Nat} (h : r.position z ≤ 2 ^ 47)
    (ha : advance ≤ 5120001) : r.position (z + BitVec.ofNat 48 advance) = r.position z + advance := by
  unfold FeatureRecord.position at h ⊢
  rw [← sub_add_eq_add_sub, BitVec.toNat_add, BitVec.toNat_ofNat]
  omega

/-- A counted pulse keeps the order and brings every record to or below the ceiling (R3, R30). -/
theorem State.countPulse_order (u : State) (range : u.InRange) (awake : u.startup.station ≠ .stopped)
    (order : inOrder u.travel.z u.zone.queue) (below : belowCeiling u.travel.z u.zone.queue) :
    inOrder u.countPulse.travel.z u.countPulse.zone.queue
      ∧ belowCeiling u.countPulse.travel.z u.countPulse.zone.queue := by
  have advance := pulseAdvance_le range.config.pitch.2 range.slip range.remainder
  have carried : inOrder (u.travel.pulse u.startup.config.pitch u.slip.code u.now).z u.zone.queue := by
    refine List.Pairwise.imp_of_mem (fun {a b} ha hb le => ?_) order
    simp only [TravelCounter.pulse]
    rw [position_add (below a ha) advance, position_add (below b hb) advance]
    exact Nat.add_le_add_right le _
  obtain ⟨travel, compared⟩ :=
    State.compareZone_order { u with travel := u.travel.pulse u.startup.config.pitch u.slip.code u.now } awake carried
  unfold State.countPulse State.zonePulse
  simp only [State.withZone_fields, travel]
  exact compared.held

/-- Settles O33: a pulse by its two parts; CLOSE and reset, which move the strip travel, find or leave the zone empty; every
other event move by move. -/
theorem pulseKeepsOrder : Obligations.PulseKeepsOrder := by
  have pulse (dt : Nat) (s t : State) (range : s.InRange) (order : inOrder s.travel.z s.zone.queue)
      (below : belowCeiling s.travel.z s.zone.queue) (h : exec (.encoderPulse dt) s = .next t) :
      inOrder t.travel.z t.zone.queue ∧ belowCeiling t.travel.z t.zone.queue := by
    obtain rfl := Host.Outcome.next.inj h
    split_ifs with tracking
    · exact State.countPulse_order (s.elapse dt) (range.of_eq rfl rfl rfl rfl)
        (by rw [tracking]; exact StationState.noConfusion) order below
    · exact ⟨order, below⟩
  refine ⟨pulse, fun c s t range quiet order below latch sof h => ?_⟩
  by_cases hc : movesTravel c = false
  · have laid := exec_keeps s.Laid (fun _ _ move l => l.step hc latch move) ⟨rfl, range.advance, order, below, sof⟩ h
    exact ⟨laid.order, laid.below⟩
  · cases c with
    | encoderPulse dt => exact pulse dt s t range order below h
    | close dt params =>
      cases params with
      | nil =>
        obtain rfl := Host.Outcome.next.inj h
        unfold State.whenAllowed
        split_ifs with placed
        · have empty : s.zone.queue = [] := (quiet.idle (by simp_all) (by simp_all)).zone
          simp [empty, inOrder, belowCeiling]
        · exact ⟨order, below⟩
      | cons b bs =>
        obtain rfl := Host.Outcome.next.inj h
        exact ⟨order, below⟩
    | hardwareReset straps chainIn =>
      obtain rfl := Host.Outcome.next.inj h
      simp [inOrder, belowCeiling, State.reset]
    | _ => exact absurd rfl hc

end Sys2Proof.Machine
end


section
/-!
Contributions formed afresh in one event, once or several times, and the entry procedure (R4 to R7, R10, R11, R17).
-/

namespace Sys2Proof.Machine

variable {s u t : State} {m k : LineMask}

/-! ### Lines formed afresh -/

/-- What is said of lines formed afresh depends on the lines, their slots, the time and the sources alone. -/
theorem State.linesFormed.of_eq {s' t' : State} (h : s.linesFormed t m) (before : s'.lines = s.lines)
    (slotsBefore : s'.mill.slots = s.mill.slots) (after : t'.lines = t.lines) (slotsAfter : t'.mill.slots = t.mill.slots)
    (now : t'.now = t.now) (sources : t'.sources = t.sources) : s'.linesFormed t' m := by
  obtain ⟨views, timed, hostTrip, signals⟩ := h
  refine ⟨fun n => ?_, fun kind => ?_, by rw [before, after, hostTrip], by rw [before, after, signals]⟩
  · rw [State.view_congr (by rw [after]) slotsAfter, State.view_congr (by rw [before]) slotsBefore, sources]
    exact views n
  · rw [now, slotsBefore, slotsAfter]
    exact timed kind

/-- A line formed afresh contributes as its source says (R117). -/
@[simp] theorem LineView.formed_contribution (source : Bool) (w : LineView) :
    (w.formed source).line.contribution = source := by
  unfold LineView.formed LineView.rises LineView.falls LineView.asks LineView.endAsk
  cases source <;> cases hc : w.line.contribution <;> simp [hc] <;> split_ifs <;> rfl

/-- Forming a line afresh leaves its copy. -/
@[simp] theorem LineView.formed_copy (source : Bool) (w : LineView) : (w.formed source).line.copy = w.line.copy := by
  unfold LineView.formed LineView.rises LineView.falls LineView.asks LineView.endAsk
  split_ifs <;> rfl

/-- A line whose contribution is what its source says stands (R117). -/
theorem LineView.formed_of_eq {source : Bool} {w : LineView} (h : w.line.contribution = source) : w.formed source = w := by
  unfold LineView.formed
  cases source <;> simp [h]

/-- Lines formed afresh keep their copies. -/
theorem State.linesFormed.copies (h : s.linesFormed t m) : t.copies = s.copies := by
  apply LineMask.ext_fin
  intro n
  rw [(t.masks_view n).1, (s.masks_view n).1, h.1 n]
  split_ifs
  · exact LineView.formed_copy _ _
  · rfl

/-- A concerned line contributes as its source says. -/
theorem State.linesFormed.contributes (h : s.linesFormed t m) (n : Fin 8) (hn : m.getLsbD n = true) :
    t.contributions.getLsbD n = t.sources.getLsbD n := by
  rw [(t.masks_view n).2.1, h.1 n, if_pos hn, LineView.formed_contribution]

/-- An event that touches no line. -/
theorem State.linesFormed_none (lines : t.lines = s.lines) (slots : t.mill.slots = s.mill.slots) :
    s.linesFormed t 0#8 := by
  refine ⟨fun n => ?_, fun kind => ?_, by rw [lines], by rw [lines]⟩
  · rw [State.view_congr (by rw [lines]) slots]
    simp
  · rw [slots]
    exact Slot.timed_refl _ _

/-- The filling time over two events of one moment, where no line leaves a slot and comes back (R120, R142). -/
theorem Slot.timed.trans {now : Nat} {a b d : Slot} (first : a.timed now b) (second : b.timed now d)
    (keeps : ∀ n : Fin 8, a.mask.getLsbD n = true → d.mask.getLsbD n = true → b.mask.getLsbD n = true) :
    a.timed now d := by
  intro some
  obtain ⟨fresh, kept, either⟩ := second some
  by_cases hb : b.mask = 0#8
  · have apart : a.mask &&& d.mask = 0#8 := LineMask.ext_fin fun n => by
      have hn := keeps n
      rw [hb, BitVec.getLsbD_zero] at hn
      rw [BitVec.getLsbD_and, BitVec.getLsbD_zero]
      cases ha : a.mask.getLsbD n.val <;> cases hd : d.mask.getLsbD n.val <;> simp_all
    exact ⟨fun _ => fresh hb, fun both => absurd apart both, .inl (fresh hb)⟩
  · obtain ⟨fresh', kept', either'⟩ := first hb
    refine ⟨fun ha => ?_, fun both => ?_, ?_⟩
    · obtain h | h := either
      · exact h
      · exact h.trans (fresh' ha)
    · have common : a.mask &&& b.mask ≠ 0#8 ∧ b.mask &&& d.mask ≠ 0#8 := by
        constructor <;>
          refine fun none => both (LineMask.ext_fin fun n => ?_) <;>
          have hn := keeps n <;>
          have h0 := congrArg (fun x => x.getLsbD n.val) none <;>
          simp only [BitVec.getLsbD_and, BitVec.getLsbD_zero] at h0 ⊢ <;>
          cases ha : a.mask.getLsbD n.val <;> cases hd : d.mask.getLsbD n.val <;> simp_all
      exact (kept common.2).trans (kept' common.1)
    · obtain h | h := either
      · exact .inl h
      · obtain h' | h' := either'
        · exact .inl (h.trans h')
        · exact .inr (h.trans h')

/-- Whether a line stands in the slot of a kind. -/
def LineView.inSlot (w : LineView) : LineKind → Bool
  | .raise => w.raise
  | .veto => w.veto
  | .ask => w.ask
  | .drop => w.drop

theorem State.view_inSlot (s : State) (n : Fin 8) (kind : LineKind) :
    (s.view n).inSlot kind = (s.mill.slots.get kind).mask.getLsbD n := by
  cases kind <;> rfl

/-- Lines formed afresh twice at one moment are formed afresh once, where the source of a line that is formed once has come to
stand when it is, and a line that is formed twice is changed once at most. -/
theorem State.linesFormed_trans (first : s.linesFormed u m) (second : u.linesFormed t k) (now : t.now = u.now)
    (once : ∀ n : Fin 8, m.getLsbD n = true → k.getLsbD n = false → u.sources.getLsbD n = t.sources.getLsbD n)
    (twice : ∀ n : Fin 8, m.getLsbD n = true → k.getLsbD n = true →
      u.sources.getLsbD n = t.sources.getLsbD n ∨ u.sources.getLsbD n = s.contributions.getLsbD n) :
    s.linesFormed t (m ||| k) := by
  obtain ⟨views, timed, hostTrip, signals⟩ := first
  obtain ⟨views', timed', hostTrip', signals'⟩ := second
  have stands (n : Fin 8) (noop : u.sources.getLsbD n = s.contributions.getLsbD n) :
      (s.view n).formed (u.sources.getLsbD n) = s.view n :=
    LineView.formed_of_eq (by rw [noop, (s.masks_view n).2.1])
  have still (n : Fin 8) : u.view n = s.view n ∨ t.view n = u.view n := by
    have hv := views n
    have hv' := views' n
    cases hm : m.getLsbD n.val
    · exact .inl (by simpa only [hm, Bool.false_eq_true, if_false] using hv)
    · cases hk : k.getLsbD n.val
      · exact .inr (by simpa only [hk, Bool.false_eq_true, if_false] using hv')
      · rw [if_pos hm] at hv
        rw [if_pos hk] at hv'
        obtain same | noop := twice n hm hk
        · right
          rw [hv']
          exact LineView.formed_of_eq (by rw [hv, LineView.formed_contribution, same])
        · exact .inl (hv.trans (stands n noop))
  refine ⟨fun n => ?_, fun kind => ?_, hostTrip'.trans hostTrip, signals'.trans signals⟩
  · rw [views' n, views n, BitVec.getLsbD_or]
    cases hm : m.getLsbD n.val
    · simp only [Bool.false_or, Bool.false_eq_true, if_false]
    · cases hk : k.getLsbD n.val
      · simp only [once n hm hk, Bool.or_false, Bool.false_eq_true, if_false, if_true]
      · simp only [Bool.or_true, if_true]
        obtain same | noop := twice n hm hk
        · rw [same]
          exact LineView.formed_of_eq (LineView.formed_contribution _ _)
        · rw [stands n noop]
  · have firstTimed : Slot.timed t.now (s.mill.slots.get kind) (u.mill.slots.get kind) := now ▸ timed kind
    refine firstTimed.trans (timed' kind) fun n before after => ?_
    rw [← State.view_inSlot] at before after ⊢
    obtain h | h := still n
    · exact h ▸ before
    · exact h ▸ after

/-! ### CLEAR TRACK -/

/-- Settles O26: the zone and the expectations are written, and the two contributions formed afresh. -/
theorem clearTrackResult : Obligations.ClearTrackResult := by
  intro dt s hs
  have allowed : ((s.elapse dt).startup.station == .tracking || (s.elapse dt).startup.station == .parked) = true := by
    simpa using hs
  have operating : s.startup.station.operating = true := by
    obtain h | h := hs <;> rw [h] <;> rfl
  refine ⟨(s.elapse dt).clearTrack, ?_, ?_, ?_⟩
  · simp only [exec, execClearTrack, State.whenAllowed, allowed, if_true]
  · have only :=
      State.formContributions_onlyLines
        { s with
          now := s.now + dt
          zone := { s.zone with queue := [], overdueFlag := false }
          handoff := { s.handoff with expectations := [], lastTake := none } } (tripLine ||| threadLine)
    unfold State.onlyLines at only ⊢
    unfold State.clearTrack
    dsimp only [State.elapse]
    rw [only]
    simp only [State.answer, State.answerData, responseBlock_nil]
    rfl
  · have formed :=
      State.formContributions_linesFormed
        { s with
          now := s.now + dt
          zone := { s.zone with queue := [], overdueFlag := false }
          handoff := { s.handoff with expectations := [], lastTake := none } } (tripLine ||| threadLine) operating
    exact formed.of_eq rfl rfl rfl rfl rfl rfl

end Sys2Proof.Machine
end


section
/-!
The entry procedure in the spec's words (R4 to R7, R10, R11).
-/

namespace Sys2Proof.Machine

variable {s u t : State}

/-! ### The record and the FAULTs of an entry -/

theorem duplicates_iff (queue : List FeatureRecord) (r : FeatureRecord) :
    duplicates queue r = true ↔ r.serial ≠ 0#16 ∧ ∃ q ∈ queue, q.kind = r.kind ∧ q.serial = r.serial := by
  simp [duplicates]

/-- The serial with which a record enters is that of the first step (R4). -/
theorem demote_eq (s : State) (r : FeatureRecord) :
    demote s.zone.queue r = { r with serial := s.entrySerial r } := by
  unfold demote State.entrySerial
  simp only [← duplicates_iff]
  split_ifs <;> rfl

/-- A record keeps its serial at entry exactly when it duplicates no other (R4). -/
theorem entrySerial_eq_iff (s : State) (r : FeatureRecord) :
    s.entrySerial r = r.serial ↔ duplicates s.zone.queue r = false := by
  unfold State.entrySerial
  simp only [← duplicates_iff]
  split_ifs with dup
  · have named := ((duplicates_iff _ _).mp dup).1
    simp [dup, Ne.symm named]
  · simpa using dup

/-- The record as it enters, in the words of R4 and R5. -/
theorem entryRecord_eq (s : State) (r : FeatureRecord) :
    s.entryRecord r = enteredRecord s.travel.z s.zone.queue r := by
  unfold State.entryRecord enteredRecord clampEntry youngest
  rw [demote_eq]
  cases s.zone.queue.getLast? <;> rfl

theorem sequenceFault_iff (y kind : FeatureKind) :
    sequenceFault y kind = true ↔ (kind = .head ∧ y ≠ .tail) ∨ (kind = .tail ∧ y = .tail) := by
  cases y <;> cases kind <;> decide

/-- The FAULTs of an entry: those of the sequence, and that of a full queue for its front record (R4, R6, R7). -/
theorem entryFaults_eq (s : State) (r : FeatureRecord) :
    s.entryFaults r
      = sequenceActions s.zone.queue r
        ++ if 6 ≤ s.zone.queue.length then
            (s.zone.queue.take 1).map (fun q => faultAction .zoneFull q.serial q.kind.code)
           else [] := by
  unfold State.entryFaults sequenceActions youngest
  rw [demote_eq]
  simp only [entrySerial_eq_iff, ← sequenceFault_iff]
  congr 2
  cases duplicates s.zone.queue r <;> rfl

/-! ### The fourth step -/

/-- A queue with room keeps its front (R7). -/
theorem State.makeRoom_of_room (h : ¬ 6 ≤ s.zone.queue.length) : s.makeRoom = s := if_pos (not_le.mp h)

/-- A full queue loses its front record, with FAULT ZONE_FULL and the flag (R7). -/
theorem State.makeRoom_of_full {front : FeatureRecord} {rest : List FeatureRecord} (h : s.zone.queue = front :: rest)
    (full : 6 ≤ s.zone.queue.length) :
    s.makeRoom
      = State.setOverdueFlag ((s.post (faultAction .zoneFull front.serial front.kind.code)).withZone rest) := by
  have noRoom : ¬ s.zone.queue.length < Config.zoneCapacity := not_lt.mpr full
  unfold State.makeRoom
  rw [if_neg noRoom, h]

/-- A full queue has a front record. -/
theorem exists_front {queue : List FeatureRecord} (full : 6 ≤ queue.length) : ∃ front rest, queue = front :: rest := by
  cases queue with
  | nil => simp at full
  | cons front rest => exact ⟨front, rest, rfl⟩

/-- What the fourth step leaves, beside the lines (R7, R10). -/
theorem State.makeRoom_result (s : State) (room : s.port.actions.length + 1 ≤ 16 ∨ ¬ 6 ≤ s.zone.queue.length) :
    s.makeRoom.zone
        = { s.zone with
            queue := if 6 ≤ s.zone.queue.length then s.zone.queue.tail else s.zone.queue
            overdueFlag := s.zone.overdueFlag || decide (6 ≤ s.zone.queue.length) }
      ∧ s.makeRoom.port
        = s.port.posted
            (if 6 ≤ s.zone.queue.length then
              (s.zone.queue.take 1).map (fun q => faultAction .zoneFull q.serial q.kind.code)
             else []) := by
  by_cases full : 6 ≤ s.zone.queue.length
  · obtain ⟨front, rest, h⟩ := exists_front full
    have post := s.post_room (faultAction .zoneFull front.serial front.kind.code) (by omega)
    rw [State.makeRoom_of_full h full, if_pos full, if_pos full, decide_eq_true full]
    constructor
    · simp [State.setOverdueFlag, State.withZone, h]
    · simp [post, h]
  · simp [State.makeRoom_of_room full, full]

/-- The fourth step forms TRIP afresh when the queue is full (R10, R121). -/
theorem State.makeRoom_linesFormed (s : State) (operating : s.startup.station.operating = true) :
    s.linesFormed s.makeRoom (if 6 ≤ s.zone.queue.length then 1#8 else 0#8) := by
  by_cases full : 6 ≤ s.zone.queue.length
  · obtain ⟨front, rest, h⟩ := exists_front full
    rw [State.makeRoom_of_full h full, if_pos full]
    refine State.linesFormed.of_eq (State.formContributions_linesFormed _ tripLine ?_) ?_ ?_ rfl rfl rfl rfl
    · simpa using operating
    · simp
    · simp
  · rw [State.makeRoom_of_room full, if_neg full]
    exact State.linesFormed_none rfl rfl

/-! ### The whole procedure -/

/-- The state in which the entry procedure forms THREAD: after R4, R6 and R7, with the record in its place. -/
def State.entering (s : State) (r : FeatureRecord) : State :=
  let t := (s.postAll (sequenceActions s.zone.queue r)).makeRoom
  t.withZone (t.zone.queue ++ [s.entryRecord r])

theorem State.enterZone_eq (s : State) (r : FeatureRecord) :
    s.enterZone r = (s.entering r).formContributions threadLine := by
  unfold State.enterZone State.entering
  rw [entryRecord_eq]

/-- What the entry procedure leaves of zone and port (R4 to R7). -/
theorem State.enterZone_result (s : State) (r : FeatureRecord)
    (room : s.port.actions.length + (s.entryFaults r).length ≤ 16) :
    (s.enterZone r).zone
        = { s.zone with
            queue := (if 6 ≤ s.zone.queue.length then s.zone.queue.tail else s.zone.queue) ++ [s.entryRecord r]
            overdueFlag := s.zone.overdueFlag || decide (6 ≤ s.zone.queue.length) }
      ∧ (s.enterZone r).port = s.port.posted (s.entryFaults r) := by
  rw [entryFaults_eq, List.length_append] at room
  have posted := s.postAll_room (sequenceActions s.zone.queue r) (by omega)
  have same : (s.postAll (sequenceActions s.zone.queue r)).zone = s.zone := by simp
  have fourth := (s.postAll (sequenceActions s.zone.queue r)).makeRoom_result ?_
  · obtain ⟨zone, port⟩ := fourth
    rw [same] at zone port
    constructor
    · simp only [State.enterZone_eq, State.formContributions_frame, State.entering, State.withZone, zone]
    · calc
        (s.enterZone r).port = (s.postAll (sequenceActions s.zone.queue r)).makeRoom.port := by
          simp [State.enterZone_eq, State.entering]
        _ = s.port.posted (s.entryFaults r) := by rw [port, posted, Port.posted_posted, entryFaults_eq]
  · rw [same]
    by_cases full : 6 ≤ s.zone.queue.length
    · left
      obtain ⟨front, rest, h⟩ := exists_front full
      rw [if_pos full, List.length_map, List.length_take_of_le (by omega)] at room
      simp only [posted, Port.posted, List.length_append]
      omega
    · exact .inr full

/-- What it means, field by field, that only the lines and their slots may differ. -/
theorem State.onlyLines_iff :
    s.onlyLines t ↔
      t.now = s.now ∧ t.pins = s.pins ∧ t.startup = s.startup ∧ t.travel = s.travel ∧ t.sensing = s.sensing
        ∧ t.zone = s.zone ∧ t.handoff = s.handoff ∧ t.slip = s.slip ∧ t.entry = s.entry
        ∧ t.lines.hostTrip = s.lines.hostTrip ∧ t.lines.signals = s.lines.signals ∧ t.strobe = s.strobe
        ∧ t.mill = { s.mill with slots := t.mill.slots } ∧ t.port = s.port ∧ t.pending = s.pending := by
  obtain ⟨now, pins, startup, travel, sensing, zone, handoff, slip, entry, lines, strobe, mill, port, pending⟩ := t
  obtain ⟨line, hostTrip, signals⟩ := lines
  simp [State.onlyLines, and_assoc]

/-- What it means, field by field, that only the slots of the mill line interface differ. -/
theorem MillLine.eq_iff {a b : MillLine} :
    a = { b with slots := a.slots } ↔
      a.rx = b.rx ∧ a.ownTail = b.ownTail ∧ a.idle = b.idle ∧ a.sof = b.sof ∧ a.queue = b.queue ∧ a.flight = b.flight
        ∧ a.rxErrors = b.rxErrors ∧ a.overlong = b.overlong ∧ a.unknownKinds = b.unknownKinds
        ∧ a.txErrors = b.txErrors ∧ a.txOverflows = b.txOverflows := by
  obtain ⟨rx, ownTail, idle, sof, queue, slots, flight, rxErrors, overlong, unknownKinds, txErrors, txOverflows⟩ := a
  simp

/-- The entry procedure touches zone, port, lines and slots alone. -/
theorem State.enterZone_onlyLines (s : State) (r : FeatureRecord) :
    State.onlyLines { s with zone := (s.enterZone r).zone, port := (s.enterZone r).port } (s.enterZone r) := by
  rw [State.onlyLines_iff, MillLine.eq_iff]
  simp

/-- The entry procedure forms THREAD afresh, once, at its end, and TRIP with a full queue (R10, R11; log entry 25). -/
theorem State.enterZone_linesFormed (s : State) (r : FeatureRecord) (operating : s.startup.station.operating = true) :
    s.linesFormed (s.enterZone r) (if 6 ≤ s.zone.queue.length then 3#8 else 2#8) := by
  have same : (s.postAll (sequenceActions s.zone.queue r)).zone = s.zone := by simp
  have fourth := (s.postAll (sequenceActions s.zone.queue r)).makeRoom_linesFormed (by simpa using operating)
  rw [same] at fourth
  have trip : s.linesFormed (s.postAll (sequenceActions s.zone.queue r)).makeRoom
      (if 6 ≤ s.zone.queue.length then 1#8 else 0#8) := fourth.of_eq (by simp) (by simp) rfl rfl rfl rfl
  have formed := (s.entering r).formContributions_linesFormed threadLine (by simpa [State.entering] using operating)
  have thread : (s.postAll (sequenceActions s.zone.queue r)).makeRoom.linesFormed (s.enterZone r) threadLine := by
    rw [State.enterZone_eq]
    exact formed.of_eq (by simp [State.entering]) (by simp [State.entering]) rfl rfl rfl rfl
  have tripOnly (n : Fin 8) (hn : (if 6 ≤ s.zone.queue.length then 1#8 else 0#8 : LineMask).getLsbD n = true) :
      threadLine.getLsbD n = false := by
    split_ifs at hn
    · revert n
      decide
    · simp at hn
  have both := State.linesFormed_trans trip thread (by simp)
    (fun n _ hn => by
      rw [State.enterZone_eq, State.formContributions_sources]
      exact (State.sources_withZone _ _ n hn).symm)
    (fun n hm hk => absurd hk (by rw [tripOnly n hm]; exact Bool.false_ne_true))
  split_ifs at both ⊢
  · exact both
  · exact both

/-- Settles O34: zone and port by the steps of R4 to R7, the lines by the two that are formed afresh. -/
theorem entryProcedure : Obligations.EntryProcedure := by
  intro s r room tracking full t
  have operating : s.startup.station.operating = true := by rw [tracking]; rfl
  obtain ⟨zone, port⟩ := s.enterZone_result r room
  have formed := s.enterZone_linesFormed r operating
  refine ⟨zone, port, formed, fun hfull => ?_, fun order => ?_, by simp [t], by simp [t], by simp [t], by simp [t],
    formed.copies⟩
  · rw [if_pos hfull] at formed
    have source : (s.enterZone r).sources.getLsbD (0 : Fin 8) = true := by
      rw [State.sources_getLsbD, zone, decide_eq_true hfull]
      simp
    exact (formed.contributes 0 rfl).trans source
  · rw [(s.enterZone_frame r).2.2.2.1]
    exact order.enterZone r

end Sys2Proof.Machine
end


section
/-!
What the entry of a feature does to the shared collections, whatever path it takes (R4 to R7, R10, R11, R52, R59), and the
paths of stand sensing (R44, R60 to R66, R107 to R109).
-/

namespace Sys2Proof.Machine

variable {s u t : State}

/-! ### Offers and ready tags that find room -/

/-- An OFFER that finds a free place, or none at the exit station (R52, R143). -/
theorem State.offer_room (s : State) (serial : Serial) (kind : FeatureKind) (tag : Option SetTag)
    (room : s.mill.queue.length < 8) :
    s.offer serial kind tag
      = { s with
          mill :=
            { s.mill with queue := s.mill.queue ++ offerFrame s.startup.straps.last serial kind tag } } := by
  unfold State.offer offerFrame
  split_ifs
  · simp
  · exact s.enqueue_room _ _ rfl room

/-- The ready flag in the words of R59. -/
theorem State.readyFlag_eq (s : State) (tag : Option SetTag) : s.readyFlag tag = s.port.flagFor tag := by
  cases tag with
  | none => rfl
  | some t => simp [State.readyFlag, Port.flagFor]

/-- The ready list in the words of R59. -/
theorem State.consumeReady_eq (s : State) (tag : Option SetTag) :
    s.consumeReady tag = { s with port := { s.port with ready := s.port.without tag } } := by
  cases tag with
  | none =>
    have all : s.port.without none = s.port.ready := by simp [Port.without]
    rw [all]
    rfl
  | some t =>
    have same : s.port.without (some t) = s.port.ready.filter (fun u => u != t) := by
      unfold Port.without
      refine List.filter_congr fun u _ => ?_
      by_cases h : u = t <;> simp [h, bne]
    rw [same]
    rfl

/-- A BITE or a SWITCH that finds room (R59, R160). -/
theorem State.postReady_room (s : State) (tag : Option SetTag) (a : Action) (room : s.port.actions.length < 16) :
    s.postReady tag a
      = { s with
          port :=
            { s.port.posted [{ a with tag := tagCode tag, ready := s.port.flagFor tag }] with
              ready := s.port.without tag } } := by
  unfold State.postReady
  rw [s.consumeReady_eq, s.readyFlag_eq, State.post_room _ _ (by exact room)]
  rfl

/-! ### The entry of a feature -/

/-- The state in which a path that has posted `before` calls the entry procedure: what the path has done of its own to the
hand-off unit and the entry list stands beside it. -/
def State.before (d : State) (h : HandOff) (e : EntryUnit) (posted : List Action) : State :=
  { d with handoff := h, entry := e, port := d.port.posted posted }

/-- The state in which a path leaves the part: after the entry procedure it has queued the frames, taken the tag out of the
ready list and posted `after`. -/
def State.after (w : State) (h : HandOff) (strobe : Option Nat) (frames : List QueuedFrame) (tag : Option SetTag)
    (posted : List Action) : State :=
  { w with
    handoff := h
    strobe := strobe
    mill := { w.mill with queue := w.mill.queue ++ frames }
    port := { w.port.posted posted with ready := w.port.without tag } }

/-- Whatever a path does of its own, its entry does what O36, O37, O39 and O50 say of the shared collections, and leaves the
hand-off unit, the entry list and STROBE as the path has them. -/
theorem State.after_enters (d : State) (h h' : HandOff) (e : EntryUnit) (strobe : Option Nat) (r : FeatureRecord)
    (frames : List QueuedFrame) (tag : Option SetTag) (before after : List Action)
    (operating : d.startup.station.operating = true) (some : after ≠ [])
    (room : d.port.actions.length + before.length + (d.entryFaults r).length ≤ 16) :
    let t := ((d.before h e before).enterZone r).after h' strobe frames tag after
    d.Entered t r frames tag before after ∧ t.handoff = h' ∧ t.sensing = d.sensing ∧ t.now = d.now ∧ t.entry = e
      ∧ t.strobe = strobe := by
  have kept : (d.before h e before).entryFaults r = d.entryFaults r := rfl
  have held : (d.before h e before).port.actions = d.port.actions ++ before := rfl
  have only := (d.before h e before).enterZone_onlyLines r
  have formed := (d.before h e before).enterZone_linesFormed r operating
  obtain ⟨zone, port⟩ := (d.before h e before).enterZone_result r (by rw [kept, held, List.length_append]; omega)
  rw [kept] at port
  generalize (d.before h e before).enterZone r = w at only formed zone port
  rw [State.onlyLines_iff] at only
  obtain ⟨now, pins, startup, travel, sensing, -, handoff, slip, entry, hostTrip, signals, strobe', mill, -, pending⟩ :=
    only
  refine ⟨?_, rfl, sensing, now, entry, rfl⟩
  exact
    { zone := zone
      mill := by
        unfold State.after
        dsimp only
        rw [mill]
        rfl
      port := by
        unfold State.after
        dsimp only
        rw [port]
        simp [State.before, Port.posted, Port.without, some]
      lines := formed.of_eq rfl rfl rfl rfl rfl rfl
      travel := travel
      slip := slip
      startup := startup
      pins := pins
      pending := pending }

/-- What the entry procedure of a path leaves of the resources that the path uses next. -/
theorem State.before_enterZone (d : State) (h : HandOff) (e : EntryUnit) (r : FeatureRecord) (before : List Action)
    (room : d.port.actions.length + before.length + (d.entryFaults r).length ≤ 16) :
    let w := (d.before h e before).enterZone r
    w.mill.queue = d.mill.queue ∧ w.port.ready = d.port.ready ∧ w.startup = d.startup ∧ w.now = d.now ∧ w.handoff = h
      ∧ w.strobe = d.strobe
      ∧ w.port.actions.length = d.port.actions.length + before.length + (d.entryFaults r).length := by
  have kept : (d.before h e before).entryFaults r = d.entryFaults r := rfl
  have held : (d.before h e before).port.actions = d.port.actions ++ before := rfl
  have port := ((d.before h e before).enterZone_result r (by rw [kept, held, List.length_append]; omega)).2
  refine ⟨by simp [State.before], by simp [State.before, Port.posted], by simp [State.before], by simp [State.before],
    by simp [State.before], by simp [State.before], ?_⟩
  rw [port, kept]
  simp [Port.posted, held, Nat.add_assoc]

theorem Port.flagFor_congr {p q : Port} (h : p.ready = q.ready) (tag : Option SetTag) : p.flagFor tag = q.flagFor tag := by
  unfold Port.flagFor
  rw [h]

theorem Port.without_congr {p q : Port} (h : p.ready = q.ready) (tag : Option SetTag) : p.without tag = q.without tag := by
  unfold Port.without
  rw [h]

theorem offerFrame_length (last : Bool) (serial : Serial) (kind : FeatureKind) (tag : Option SetTag) :
    (offerFrame last serial kind tag).length ≤ 1 := by
  unfold offerFrame
  split_ifs <;> simp

/-- An OFFER, a BITE, a TAILOUT or a SWITCH that find room (R52, R59, R65). -/
theorem State.offer_postReady (w : State) (serial : Serial) (kind : FeatureKind) (tag : Option SetTag) (a : Action)
    (places : w.mill.queue.length < 8) (room : w.port.actions.length < 16) :
    (w.offer serial kind tag).postReady tag a
      = w.after w.handoff w.strobe (offerFrame w.startup.straps.last serial kind tag) tag
          [{ a with tag := tagCode tag, ready := w.port.flagFor tag }] := by
  rw [w.offer_room serial kind tag places, State.postReady_room _ _ _ (by exact room)]
  rfl

/-! ### The detected take -/

/-- A detected take whose frames and actions find room (R60 to R66). -/
theorem State.detectedTake_eq (d : State) (kind : FeatureKind) (ev : SenseEvent) (h : HandOff) (before : List Action)
    {r : FeatureRecord} {serial : Serial} {tag : Option SetTag} {anon : Byte}
    (consumed : d.consumeExpected kind = d.before h d.entry before)
    (named : d.takeSerial kind = serial ∧ d.takeTag kind = tag ∧ d.takeAnon kind = anon)
    (record : biteRecord kind serial tag anon ev = r) (places : d.mill.queue.length + 2 ≤ 8)
    (room : d.port.actions.length + before.length + (d.entryFaults r).length + 1 ≤ 16) :
    d.detectedTake kind ev
      = ((d.before h d.entry before).enterZone r).after { h with lastTake := some { serial := serial, kind := kind } }
          d.strobe
          (offerFrame d.startup.straps.last serial kind tag
            ++ [{ body := .take serial kind anon, age := some { base := 0, since := ev.time }, flying := false }])
          tag
          [{ takeAction kind serial anon ev.inhibited with tag := tagCode tag, ready := d.port.flagFor tag }] := by
  obtain ⟨rfl, rfl, rfl⟩ := named
  obtain ⟨queue, ready, startup, now, own, strobe, actions⟩ := d.before_enterZone h d.entry r before (by omega)
  unfold State.detectedTake
  dsimp only
  rw [consumed, record]
  generalize (d.before h d.entry before).enterZone r = w at queue ready startup own strobe actions ⊢
  have offers := offerFrame_length w.startup.straps.last (d.takeSerial kind) kind (d.takeTag kind)
  rw [w.offer_room _ _ _ (by rw [queue]; omega),
    State.enqueue_room _ _ _ rfl (by simp only [queue, List.length_append]; omega),
    State.postReady_room _ _ _ (by simp only [actions]; omega), ← Port.flagFor_congr ready, ← own, ← strobe, ← startup]
  simp only [List.append_assoc]
  rfl

/-- The list of expectations as a detected take finds it (R60, R61). -/
theorem State.expected_of_split (d : State) (kind : FeatureKind) {ahead behind : List Expectation} {e : Expectation}
    (stands : d.handoff.expectations = ahead ++ e :: behind) (skips : ∀ x ∈ ahead, x.kind ≠ kind)
    (found : e.kind = kind) :
    d.expected kind = some (ahead, e, behind) := by
  unfold State.expected
  rw [stands]
  exact splitFirst_append (by simpa using found) (by simpa using skips)

theorem State.expected_none (d : State) (kind : FeatureKind) (h : ∀ x ∈ d.handoff.expectations, x.kind ≠ kind) :
    d.expected kind = none :=
  splitFirst_none.mpr (by simpa using h)

/-- The detected take of an expectation that it finds (R60, R61, R67). -/
theorem State.detectedTake_expected (d : State) (kind : FeatureKind) (ev : SenseEvent) {ahead behind : List Expectation}
    {e : Expectation} (stands : d.handoff.expectations = ahead ++ e :: behind) (skips : ∀ x ∈ ahead, x.kind ≠ kind)
    (found : e.kind = kind) (places : d.mill.queue.length + 2 ≤ 8) {tag : Option SetTag}
    (label : (if kind = .tail then none else e.tag) = tag)
    (room : d.port.actions.length + ahead.length + (d.entryFaults (biteRecord kind e.serial tag 0#8 ev)).length + 1 ≤ 16) :
    d.detectedTake kind ev
      = ((d.before { d.handoff with expectations := behind } d.entry (ahead.map skipped)).enterZone
            (biteRecord kind e.serial tag 0#8 ev)).after
          { d.handoff with expectations := behind, lastTake := some { serial := e.serial, kind := kind } } d.strobe
          (offerFrame d.startup.straps.last e.serial kind tag
            ++ [{ body := .take e.serial kind 0#8, age := some { base := 0, since := ev.time }, flying := false }])
          tag [{ takeAction kind e.serial 0#8 ev.inhibited with tag := tagCode tag, ready := d.port.flagFor tag }] := by
  have split := d.expected_of_split kind stands skips found
  refine d.detectedTake_eq kind ev { d.handoff with expectations := behind } (ahead.map skipped) ?_ ?_ rfl places ?_
  · unfold State.consumeExpected
    rw [split]
    exact State.postAll_room _ _ (by simp; omega)
  · simp [State.takeSerial, State.takeTag, State.takeAnon, split, label]
  · simpa using room

/-- The detected take without an expectation of its kind (R62). -/
theorem State.detectedTake_unexpected (d : State) (kind : FeatureKind) (ev : SenseEvent)
    (missing : ∀ x ∈ d.handoff.expectations, x.kind ≠ kind) (places : d.mill.queue.length + 2 ≤ 8) {anon : Byte}
    (next : nextAnon d.handoff.anonCounter = anon)
    (room : d.port.actions.length + (d.entryFaults (biteRecord kind 0#16 none anon ev)).length + 1 ≤ 16) :
    d.detectedTake kind ev
      = ((d.before { d.handoff with anonCounter := anon } d.entry []).enterZone (biteRecord kind 0#16 none anon ev)).after
          { d.handoff with anonCounter := anon, lastTake := some { serial := 0#16, kind := kind } } d.strobe
          (offerFrame d.startup.straps.last 0#16 kind none
            ++ [{ body := .take 0#16 kind anon, age := some { base := 0, since := ev.time }, flying := false }])
          none [{ takeAction kind 0#16 anon ev.inhibited with tag := tagCode none, ready := d.port.flagFor none }] := by
  have split := d.expected_none kind missing
  refine d.detectedTake_eq kind ev { d.handoff with anonCounter := anon } [] ?_ ?_ rfl places ?_
  · unfold State.consumeExpected State.before
    rw [split, Port.posted_nil, next]
  · simp [State.takeSerial, State.takeTag, State.takeAnon, split, next]
  · simpa using room

/-- The BITE or TAILOUT as it is posted (R65). -/
theorem takeAction_report (kind : FeatureKind) (serial : Serial) (tag : Option SetTag) (ready : ReadyFlag)
    (inhibited : Bool) (anon : Byte) (h : inhibited = true → kind = .head) :
    { takeAction kind serial anon inhibited with tag := tagCode tag, ready := ready }
      = takeReport kind serial tag ready inhibited anon := by
  cases inhibited with
  | false => simp [takeAction, takeReport]
  | true => simp [takeAction, takeReport, h rfl]

/-- Settles O36: the qualified level is accepted, and the two ways of a detected take are read off. -/
theorem qualifiedTakeDownTheTrain : Obligations.QualifiedTakeDownTheTrain := by
  intro kind l s tracking first level places d record take frames
  have operating : d.startup.station.operating = true := by
    show s.startup.station.operating = true
    rw [tracking]
    rfl
  have accepted : exec (.qualificationExpiry .load) s = .next (d.detectedTake kind l.event) := by
    obtain ⟨rfl, rise⟩ | ⟨rfl, fall⟩ := level
    · show Host.Outcome.next s.acceptLoad = _
      simp only [State.acceptLoad, rise]
      show Host.Outcome.next (State.deliverLoad d .head l.event) = _
      simp [State.deliverLoad, d, first]
    · show Host.Outcome.next s.acceptLoad = _
      simp only [State.acceptLoad, fall]
      show Host.Outcome.next (State.deliverLoad d .tail l.event) = _
      simp [State.deliverLoad, d, first]
  have notInhibited (serial : Serial) (tag : Option SetTag) (ready : ReadyFlag) (anon : Byte) :=
    takeAction_report kind serial tag ready false anon (by simp)
  refine ⟨?_, ?_⟩
  · intro ahead behind e stands skips found tag r room
    have enough : d.port.actions.length + ahead.length + (d.entryFaults r).length + 1 ≤ 16 := room
    have taken := d.detectedTake_expected kind l.event stands skips found places (tag := tag) rfl enough
    refine ⟨_, accepted, ?_⟩
    rw [taken, show l.event.inhibited = false from rfl, notInhibited]
    exact d.after_enters _ _ _ _ r _ tag _ _ operating (by simp) (by rw [List.length_map]; omega)
  · intro missing anon r room
    have enough : d.port.actions.length + (d.entryFaults r).length + 1 ≤ 16 := room
    have taken := d.detectedTake_unexpected kind l.event missing places (anon := anon) rfl enough
    refine ⟨_, accepted, ?_⟩
    rw [taken, show l.event.inhibited = false from rfl, notInhibited]
    exact d.after_enters _ _ _ _ r _ none [] _ operating (by simp) (by rw [List.length_nil]; omega)

end Sys2Proof.Machine
end


section
/-!
The paths of the entry station and of the bite inhibit (R45, R49, R107 to R109).
-/

namespace Sys2Proof.Machine

variable {s u t : State}

/-! ### FAULTs of an announced bar that find room -/

theorem State.postMismatch_room (w : State) (mismatch : Bool) (serial : Serial) (kind : FeatureKind) (tag : Option SetTag)
    (room : w.port.actions.length < 16) :
    w.postMismatch mismatch serial kind tag
      = { w with
          port :=
            w.port.posted (if mismatch then [faultAction .entryMismatch serial kind.code (tagCode tag)] else []) } := by
  unfold State.postMismatch
  split_ifs
  · exact w.post_room _ room
  · rw [Port.posted_nil]

theorem State.postUnannounced_room (w : State) (unannounced : Bool) (room : w.port.actions.length < 16) :
    w.postUnannounced unannounced
      = { w with
          port := w.port.posted (if unannounced then [faultAction .joinUnannounced 0#16 FeatureKind.join.code] else []) } := by
  unfold State.postUnannounced
  split_ifs
  · exact w.post_room _ room
  · rw [Port.posted_nil]

/-- The two FAULTs that a join strobe can post, in their order (R108). -/
theorem State.postBoth_room (w : State) (mismatch unannounced : Bool) (serial : Serial) (kind : FeatureKind)
    (tag : Option SetTag) {as : List Action}
    (posted :
      (if mismatch then [faultAction .entryMismatch serial kind.code (tagCode tag)] else [])
        ++ (if unannounced then [faultAction .joinUnannounced 0#16 FeatureKind.join.code] else [])
      = as)
    (room : w.port.actions.length + 2 ≤ 16) :
    (w.postMismatch mismatch serial kind tag).postUnannounced unannounced = { w with port := w.port.posted as } := by
  rw [w.postMismatch_room _ _ _ _ (by omega), State.postUnannounced_room, ← posted, ← Port.posted_posted]
  simp only [Port.posted, List.length_append]
  split_ifs <;> simp <;> omega

/-- What a path posts behind the entry procedure before its own report stands ahead of that report. -/
theorem State.posted_after (w : State) (h : HandOff) (strobe : Option Nat) (frames : List QueuedFrame) (tag : Option SetTag)
    (as bs : List Action) :
    State.after { w with port := w.port.posted as } h strobe frames tag bs = w.after h strobe frames tag (as ++ bs) := by
  unfold State.after
  rw [Port.posted_posted]
  rfl

/-- The entry list loses its front bar (R107, R108). -/
theorem State.withBars_before (d : State) (l : List Bar) : d.withBars l = d.before d.handoff { bars := l } [] := by
  unfold State.before
  rw [Port.posted_nil]
  rfl

/-! ### The entry station's paths -/

/-- The FAULTs that the entry of the front bar calls for (R107, R108). -/
def State.barFaults (d : State) (kind : FeatureKind) : List Action :=
  match d.entry.bars with
  | [] => if kind = .join then [faultAction .joinUnannounced 0#16 FeatureKind.join.code] else []
  | b :: _ => if b.joined = (kind == .join) then [] else [faultAction .entryMismatch b.serial kind.code (tagCode b.tag)]

theorem State.barFaults_length (d : State) (kind : FeatureKind) : (d.barFaults kind).length ≤ 1 := by
  unfold State.barFaults
  split <;> split_ifs <;> simp

/-- A bite at the entry station whose frame and actions find room (R107). -/
theorem State.entryBite_eq (d : State) (ev : SenseEvent) {r : FeatureRecord}
    (record : biteRecord .head d.frontSerial d.frontTag 0#8 ev = r) (places : d.mill.queue.length + 1 ≤ 8)
    (room : d.port.actions.length + (d.entryFaults r).length + (d.barFaults .head).length + 1 ≤ 16) :
    d.entryBite ev
      = ((d.before d.handoff { bars := d.entry.bars.tail } []).enterZone r).after d.handoff d.strobe
          (offerFrame d.startup.straps.last d.frontSerial .head d.frontTag) d.frontTag
          (d.barFaults .head
            ++ [takeReport .head d.frontSerial d.frontTag (d.port.flagFor d.frontTag) ev.inhibited 0#8]) := by
  have faults :
      (if d.frontMismatch false then [faultAction .entryMismatch d.frontSerial FeatureKind.head.code (tagCode d.frontTag)]
       else []) = d.barFaults .head := by
    unfold State.frontMismatch State.frontSerial State.frontTag State.barFaults
    cases d.entry.bars with
    | nil => rfl
    | cons b rest => cases hb : b.joined <;> simp [hb]
  obtain ⟨queue, ready, startup, now, own, strobe, actions⟩ :=
    d.before_enterZone d.handoff { bars := d.entry.bars.tail } r [] (by rw [List.length_nil]; omega)
  rw [List.length_nil] at actions
  unfold State.entryBite
  dsimp only
  rw [record, State.withBars_before]
  generalize (d.before d.handoff { bars := d.entry.bars.tail } []).enterZone r = w
    at queue ready startup own strobe actions ⊢
  rw [w.postMismatch_room _ _ _ _ (by omega), faults, State.offer_postReady, State.posted_after,
    takeAction_report _ _ _ _ _ _ (fun _ => rfl)]
  · rw [own, strobe, startup, Port.flagFor_congr (p := w.port.posted _) (q := d.port) ready]
  · rw [queue]
    omega
  · simp only [Port.posted, List.length_append, actions]
    omega

/-- A release at the entry station whose frame and action find room (R109). -/
theorem State.entryRelease_eq (d : State) (ev : SenseEvent) {r : FeatureRecord}
    (record : biteRecord .tail d.youngestHeadSerial none 0#8 ev = r) (places : d.mill.queue.length + 1 ≤ 8)
    (room : d.port.actions.length + (d.entryFaults r).length + 1 ≤ 16) :
    d.entryRelease ev
      = ((d.before d.handoff d.entry []).enterZone r).after d.handoff d.strobe
          (offerFrame d.startup.straps.last d.youngestHeadSerial .tail none) none
          [takeReport .tail d.youngestHeadSerial none .na false 0#8] := by
  have start : d.before d.handoff d.entry [] = d := by
    unfold State.before
    rw [Port.posted_nil]
  obtain ⟨queue, ready, startup, now, own, strobe, actions⟩ :=
    d.before_enterZone d.handoff d.entry r [] (by rw [List.length_nil]; omega)
  rw [List.length_nil] at actions
  unfold State.entryRelease
  dsimp only
  rw [record, start] at *
  generalize d.enterZone r = w at queue ready startup own strobe actions ⊢
  rw [State.offer_postReady, takeAction_report _ _ _ _ _ _ (by simp), own, strobe, startup]
  · rfl
  · rw [queue]
    omega
  · omega

/-- A join strobe at the entry station whose frame and actions find room (R108). -/
theorem State.entryJoin_eq (d : State) {r : FeatureRecord}
    (record : entryJoinRecord d.frontSerial d.frontTag d.travel.w d.travel.z = r) (places : d.mill.queue.length + 1 ≤ 8)
    (room : d.port.actions.length + (d.entryFaults r).length + 2 ≤ 16) :
    d.entryJoin
      = ((d.before d.handoff { bars := d.entry.bars.tail } []).enterZone r).after d.handoff
          (some (d.now + d.startup.config.strobeWidth))
          (offerFrame d.startup.straps.last d.frontSerial .join d.frontTag) d.frontTag
          (d.barFaults .join
            ++ [{ switchAction d.frontSerial false false 0 with
                    tag := tagCode d.frontTag, ready := d.port.flagFor d.frontTag }]) := by
  have faults :
      (if d.frontMismatch true then [faultAction .entryMismatch d.frontSerial FeatureKind.join.code (tagCode d.frontTag)]
       else [])
        ++ (if d.entry.bars.isEmpty then [faultAction .joinUnannounced 0#16 FeatureKind.join.code] else [])
      = d.barFaults .join := by
    unfold State.frontMismatch State.frontSerial State.frontTag State.barFaults
    cases d.entry.bars with
    | nil => rfl
    | cons b rest => cases hb : b.joined <;> simp [hb]
  obtain ⟨queue, ready, startup, now, own, strobe, actions⟩ :=
    d.before_enterZone d.handoff { bars := d.entry.bars.tail } r [] (by rw [List.length_nil]; omega)
  rw [List.length_nil] at actions
  unfold State.entryJoin
  dsimp only
  rw [record, State.withBars_before]
  have short := d.barFaults_length .join
  generalize (d.before d.handoff { bars := d.entry.bars.tail } []).enterZone r = w
    at queue ready startup now own strobe actions ⊢
  rw [w.postBoth_room _ _ _ _ _ faults (by omega), State.offer_postReady, State.posted_after]
  · simp only [State.startStrobe, State.after, own, startup, now,
      Port.flagFor_congr (p := w.port.posted _) (q := d.port) ready]
  · rw [queue]
    omega
  · simp only [Port.posted, List.length_append, actions]
    omega

/-! ### O37 and O39 -/

/-- What is said of the shared collections does not depend on the time base and on stand sensing before the entry. -/
theorem State.Entered.of_eq {d d' : State} {r : FeatureRecord} {frames : List QueuedFrame} {tag : Option SetTag}
    {before after : List Action} (h : d.Entered t r frames tag before after)
    (same : d' = { d with now := d'.now, sensing := d'.sensing }) : d'.Entered t r frames tag before after := by
  rw [same]
  exact { h with }

/-- A join strobe leaves no trace outside TRACKING and at other stations (R45). -/
theorem joinStrobe_ignored (dt : Nat) (s : State) (h : ¬ (s.startup.straps.first = true ∧ s.startup.station = .tracking)) :
    exec (.joinStrobe dt) s = .next { s with now := s.now + dt } := by
  show Host.Outcome.next _ = _
  rw [if_neg (by exact h)]
  rfl

/-- Settles O37: each of the three events is brought to its path, and the path's entry is read off. -/
theorem entersTheTrain : Obligations.EntersTheTrain := by
  intro dt s
  refine ⟨joinStrobe_ignored dt s, ?_⟩
  intro first tracking places serial tag mismatch last
  have operating : s.startup.station.operating = true := by rw [tracking]; rfl
  have faults (kind : FeatureKind) : s.barFaults kind = mismatch kind := rfl
  refine ⟨?_, ?_, ?_⟩
  · intro l level r d room
    have accepted : exec (.qualificationExpiry .load) s = .next ((State.withLoad d .armedHigh).entryBite l.event) := by
      show Host.Outcome.next s.acceptLoad = _
      simp only [State.acceptLoad, level]
      show Host.Outcome.next (State.deliverLoad (d.withLoad .armedHigh) .head l.event) = _
      simp [State.deliverLoad, d, first]
    have enough :
        (d.withLoad .armedHigh).port.actions.length + ((d.withLoad .armedHigh).entryFaults r).length + 2 ≤ 16 := room
    have short := (d.withLoad .armedHigh).barFaults_length .head
    have bite := (d.withLoad .armedHigh).entryBite_eq l.event (r := r) rfl places (by omega)
    obtain ⟨entered, handoff, sensing, now, entry, strobe⟩ :=
      (d.withLoad .armedHigh).after_enters s.handoff s.handoff { bars := s.entry.bars.tail } s.strobe r
        (offerFrame last serial .head tag) tag []
        (mismatch .head ++ [takeReport .head serial tag (s.port.flagFor tag) false 0#8]) operating (by simp)
        (by rw [List.length_nil]; omega)
    exact ⟨_, accepted.trans (congrArg _ bite), entered.of_eq rfl, entry, handoff, now, strobe, sensing⟩
  · intro l level name r d room
    have accepted : exec (.qualificationExpiry .load) s = .next ((State.withLoad d .armedLow).entryRelease l.event) := by
      show Host.Outcome.next s.acceptLoad = _
      simp only [State.acceptLoad, level]
      show Host.Outcome.next (State.deliverLoad (d.withLoad .armedLow) .tail l.event) = _
      simp [State.deliverLoad, d, first]
    have enough :
        (d.withLoad .armedLow).port.actions.length + ((d.withLoad .armedLow).entryFaults r).length + 1 ≤ 16 := room
    have release := (d.withLoad .armedLow).entryRelease_eq l.event (r := r) rfl places enough
    obtain ⟨entered, handoff, sensing, now, entry, strobe⟩ :=
      (d.withLoad .armedLow).after_enters s.handoff s.handoff s.entry s.strobe r (offerFrame last name .tail none) none []
        [takeReport .tail name none .na false 0#8] operating (by simp) (by rw [List.length_nil]; omega)
    exact ⟨_, accepted.trans (congrArg _ release), entered.of_eq rfl, entry, handoff, now, strobe, sensing⟩
  · intro r room
    have accepted : exec (.joinStrobe dt) s = .next (s.elapse dt).entryJoin := by
      show Host.Outcome.next _ = _
      rw [if_pos ⟨first, tracking⟩]
    have enough : (s.elapse dt).port.actions.length + ((s.elapse dt).entryFaults r).length + 2 ≤ 16 := room
    have short := (s.elapse dt).barFaults_length .join
    have join := (s.elapse dt).entryJoin_eq (r := r) rfl places (by omega)
    obtain ⟨entered, handoff, sensing, now, entry, strobe⟩ :=
      (s.elapse dt).after_enters s.handoff s.handoff { bars := s.entry.bars.tail }
        (some (s.now + dt + s.startup.config.strobeWidth)) r (offerFrame last serial .join tag) tag []
        (mismatch .join
          ++ [{ kind := .switch, serial := serial, feature := 3#8, tag := tagCode tag, ready := s.port.flagFor tag }])
        operating (by simp) (by rw [List.length_nil]; omega)
    exact ⟨_, accepted.trans (congrArg _ join), entered.of_eq rfl, entry, handoff, now, strobe, sensing⟩

end Sys2Proof.Machine
end


section
/-!
The bite inhibit (R49).
-/

namespace Sys2Proof.Machine

variable {s u t : State}

/-- The table of R49 for a detector that is armed or waiting. -/
theorem afterInhibit_eq (d : Detector) (level expected : Bool) (h : d = .armedLow ∨ d = .armedHigh ∨ d = .waitLow) :
    d.afterInhibit level expected
      = if level = false then .armedLow
        else if d = .armedHigh ∨ expected = true then .armedHigh
        else .waitLow := by
  obtain rfl | rfl | rfl := h <;> cases level <;> cases expected <;> rfl

/-- The head expected at an expiry, in the words of O39 (R49). -/
theorem State.headExpected_eq (s : State) :
    s.headExpected
      = if s.startup.straps.first then (match s.entry.bars with | [] => false | b :: _ => !b.joined)
        else (match s.handoff.expectations with | [] => false | e :: _ => e.kind == .head) := by
  unfold State.headExpected
  rfl

/-- The state that an expiry leaves before it delivers a bite (R49). -/
def State.inhibitEnded (s : State) (deadline : Nat) : State :=
  { s with
    now := max s.now deadline
    sensing :=
      { s.sensing with
        inhibit := none
        load := s.sensing.load.afterInhibit s.pins.load s.headExpected } }

theorem biteInhibitExpiry_none (h : s.sensing.inhibit = none) : exec .biteInhibitExpiry s = .next s := by
  show execBiteInhibitExpiry s = _
  unfold execBiteInhibitExpiry
  rw [h]

theorem biteInhibitExpiry_some {deadline : Nat} (h : s.sensing.inhibit = some deadline) :
    exec .biteInhibitExpiry s
      = .next
          (if s.pins.load = true ∧ s.headExpected = true then
            (s.inhibitEnded deadline).deliverLoad .head
              { w := s.travel.w, z := s.travel.z, time := max s.now deadline, inhibited := true }
          else s.inhibitEnded deadline) := by
  show execBiteInhibitExpiry s = _
  unfold execBiteInhibitExpiry
  rw [h]
  rfl

/-- A bite or a release down the train is a detected take (R44). -/
theorem State.deliverLoad_train (s : State) (kind : FeatureKind) (ev : SenseEvent)
    (first : s.startup.straps.first = false) : s.deliverLoad kind ev = s.detectedTake kind ev := by
  simp [State.deliverLoad, first]

/-- A bite at the entry station (R44). -/
theorem State.deliverLoad_entry (s : State) (ev : SenseEvent) (first : s.startup.straps.first = true) :
    s.deliverLoad .head ev = s.entryBite ev := by
  simp [State.deliverLoad, first]

/-- Settles O39: the expiry is read off its table, and the bite it delivers off the rules of the two paths. -/
theorem inhibitExpiry : Obligations.InhibitExpiry := by
  intro s
  refine ⟨biteInhibitExpiry_none, ?_⟩
  intro deadline running armed now expected load d record bite last
  have ended : s.inhibitEnded deadline = d := by
    unfold State.inhibitEnded
    rw [afterInhibit_eq _ _ _ armed, s.headExpected_eq] <;> rfl
  have expiry := biteInhibitExpiry_some running
  rw [ended, s.headExpected_eq] at expiry
  refine ⟨?_, ?_⟩
  · intro idle
    rw [expiry, if_neg]
    rintro ⟨high, head⟩
    obtain low | unexpected := idle
    · simp [low] at high
    · exact absurd (unexpected.symm.trans head) (by simp)
  intro high tracking places
  have operating : d.startup.station.operating = true := by
    show s.startup.station.operating = true
    rw [tracking]
    rfl
  refine ⟨?_, ?_⟩
  · intro first e behind stands head room
    have enough : d.port.actions.length + (d.entryFaults (record e.serial e.tag)).length + 1 ≤ 16 := room
    rw [if_pos (by simp [high, first, stands, head])] at expiry
    have taken :=
      d.detectedTake_expected .head { w := s.travel.w, z := s.travel.z, time := now, inhibited := true }
        (ahead := []) stands (by simp) head places (tag := e.tag) (by simp)
        (by rw [List.length_nil]; exact enough)
    refine ⟨_, expiry.trans (congrArg _ ((d.deliverLoad_train _ _ first).trans taken)), ?_⟩
    rw [takeAction_report _ _ _ _ _ _ (fun _ => rfl)]
    exact d.after_enters _ _ _ _ (record e.serial e.tag) _ e.tag [] _ operating (by simp)
      (by rw [List.length_nil]; omega)
  · intro first b rest bars unjoined room
    have enough : d.port.actions.length + (d.entryFaults (record b.serial b.tag)).length + 1 ≤ 16 := room
    have serial : d.frontSerial = b.serial := by simp [State.frontSerial, d, bars]
    have tag : d.frontTag = b.tag := by simp [State.frontTag, d, bars]
    have faults : d.barFaults .head = [] := by simp [State.barFaults, d, bars, unjoined]
    rw [if_pos (by simp [high, first, bars, unjoined])] at expiry
    have taken :=
      d.entryBite_eq { w := s.travel.w, z := s.travel.z, time := now, inhibited := true }
        (r := record b.serial b.tag) (by rw [serial, tag]; rfl) (by exact Nat.le_of_succ_le places)
        (by rw [faults, List.length_nil]; exact enough)
    refine ⟨_, expiry.trans (congrArg _ ((d.deliverLoad_entry _ first).trans taken)), ?_⟩
    rw [faults, serial, tag, show d.entry.bars.tail = rest by simp [d, bars]]
    obtain ⟨entered, handoff, sensing, base, entry, strobe⟩ :=
      d.after_enters d.handoff d.handoff { bars := rest } d.strobe (record b.serial b.tag)
        (offerFrame last b.serial .head b.tag) b.tag [] [bite b.serial b.tag] operating (by simp)
        (by rw [List.length_nil]; omega)
    exact ⟨entered, entry, handoff, sensing, base, strobe⟩

end Sys2Proof.Machine
end


section
/-!
Received frames (R53, R70, R72, R80, R84, R88, R93, R138 to R141): what each leaves to the block it is for.
-/

namespace Sys2Proof.Machine

variable {s u t : State}

/-! ### The frame as it reaches its block -/

/-- What a valid frame does once it has been read to its end and is no position clash. -/
def frameActs (c : Instr) (arb : Arbitration) (u : State) : State :=
  match c with
  | .claimReceived _ _ position flags => (u.claimArrives arb position flags).refreshFrom arb
  | .offerReceived _ _ serial kind tag => u.handled arb (fun v => v.fromAbove arb (fun x => x.offerActs serial kind tag))
  | .takeReceived _ _ serial kind anon age => u.handled arb (fun v => v.takeArrives arb serial kind anon age.toNat)
  | .passReceived _ _ serial tag flags age =>
    u.handled arb (fun v => v.fromAbove arb (fun x =>
      x.joinArrives .passed serial (tagOfByte tag) (flags.getLsbD 0) 0 age.toNat))
  | .lapseReceived _ _ serial tag flags overrun age =>
    u.handled arb (fun v => v.fromAbove arb (fun x =>
      x.lapseActs serial (tagOfByte tag) (flags.getLsbD 0) overrun.toNat age.toNat))
  | .bindReceived _ _ serial kind tag anon =>
    u.handled arb (fun v => v.fromAbove arb (fun x => x.bindActs serial kind tag anon))
  | .paceReceived _ _ head serial kind =>
    if u.startup.station.operating then u.paceArrives arb (readPaceHead head) (readLastTake serial kind) else u
  | .raiseReceived _ _ mask => u.handled arb (fun v => v.lineHeld mask arb.position)
  | .vetoReceived _ _ mask => u.handled arb (fun v => v.lineHeld mask arb.position)
  | .askReceived _ _ mask => u.handled arb (fun v => v.lineAsked mask)
  | .dropReceived _ _ mask => u.handled arb (fun v => v.lineDropped mask arb.position)
  | _ => u

theorem exec_receivedFrame {c : Instr} {dt : Nat} {arb : Arbitration} (h : receivedFrame c = some (dt, arb)) (s : State) :
    exec c s = .next (s.receive dt arb (frameActs c arb)) := by
  cases c
  all_goals simp only [receivedFrame, reduceCtorEq, Option.some.injEq, Prod.mk.injEq] at h
  all_goals
    obtain ⟨rfl, rfl⟩ := h
    rfl

theorem State.reading_iff (s : State) :
    s.reading = true ↔ s.mill.rx = .receiving ∧ s.mill.flight = none ∧ s.mill.ownTail = false := by
  simp [State.reading, and_assoc]

theorem State.receive_unread (dt : Nat) (arb : Arbitration) (handle : State → State) (h : ¬ s.reading = true) :
    s.receive dt arb handle = { s with now := s.now + dt } := by
  unfold State.receive
  exact if_neg h

/-- A frame that is no position clash reaches its block. -/
theorem State.receive_acts (dt : Nat) (arb : Arbitration) (handle : State → State) (reading : s.reading = true)
    (h : ¬ (s.startup.station.operating = true ∧ arb.position = s.startup.position)) :
    s.receive dt arb handle = handle (s.delivered dt) := by
  unfold State.receive
  exact (if_pos reading).trans (if_neg h)

theorem State.receive_clash (dt : Nat) (arb : Arbitration) (handle : State → State) (reading : s.reading = true)
    (operating : s.startup.station.operating = true) (own : arb.position = s.startup.position) :
    s.receive dt arb handle = (((s.elapse dt).settleBoth (s.now + dt)).withReceiver .hunt 6).clash arb := by
  unfold State.receive
  exact (if_pos reading).trans (if_pos ⟨operating, own⟩)

theorem State.handled_operating (arb : Arbitration) (acts : State → State) (h : s.startup.station.operating = true) :
    s.handled arb acts = (acts s).refreshFrom arb := if_pos h

theorem State.handled_idle (arb : Arbitration) (acts : State → State) (h : ¬ s.startup.station.operating = true) :
    s.handled arb acts = s := if_neg h

theorem State.fromAbove_elsewhere (arb : Arbitration) (acts : State → State) (h : arb.position + 1 ≠ s.startup.position) :
    s.fromAbove arb acts = s := by
  simp [State.fromAbove, State.fromUpstream, h]

theorem State.fromAbove_tracking (arb : Arbitration) (acts : State → State) (h : arb.position + 1 = s.startup.position)
    (tracking : s.startup.station = .tracking) : s.fromAbove arb acts = acts s := by
  simp [State.fromAbove, State.fromUpstream, h, tracking]

theorem State.fromAbove_discarded (arb : Arbitration) (acts : State → State) (h : arb.position + 1 = s.startup.position)
    (waits : s.startup.station = .placed ∨ s.startup.station = .parked) : s.fromAbove arb acts = s.countDiscarded := by
  obtain w | w := waits <;> simp [State.fromAbove, State.fromUpstream, h, w]

/-! ### The refresh of a neighbour record -/

/-- The NEIGHBOUR action of a position on the line. -/
theorem neighbourAction_position (arb : Arbitration) :
    neighbourAction arb.position true = { kind := .neighbour, cls := 1#2, value := BitVec.ofNat 16 arb.position } := by
  have most : min arb.position 65535 = arb.position := by
    have := arb.station.isLt
    unfold Arbitration.position
    omega
  simp [neighbourAction, saturate16, most]

theorem State.returnActions_length (s : State) (arb : Arbitration) : (s.returnActions arb).length ≤ 1 := by
  unfold State.returnActions
  dsimp only
  split_ifs <;> simp

/-- The refresh of R80 where its NEIGHBOUR action finds room. -/
theorem State.refreshFrom_room (s : State) (arb : Arbitration) (operating : s.startup.station.operating = true)
    (room : s.port.actions.length < 16) :
    s.refreshFrom arb
      = { s with handoff := s.refreshed arb s.now, port := s.port.posted (s.returnActions arb) } := by
  unfold State.refreshFrom State.refreshed State.returnActions
  rw [if_pos operating]
  by_cases up : s.startup.straps.first = false ∧ arb.position + 1 = s.startup.position
  · have own : s.startup.position - 1 = arb.position := by omega
    have keeps : (s.keepsUp && s.fromUpstream arb) = true := by simp [State.keepsUp, State.fromUpstream, up]
    simp only [if_pos up, if_pos keeps, State.refreshUp]
    split_ifs with silent
    · rw [State.post_room _ _ (by exact room), own, neighbourAction_position]
      rfl
    · rw [Port.posted_nil]
      rfl
  have keepsUp : ¬ (s.keepsUp && s.fromUpstream arb) = true := by simpa [State.keepsUp, State.fromUpstream] using up
  by_cases down : s.startup.straps.last = false ∧ arb.position = s.startup.position + 1
  · have keeps : (s.keepsDown && s.fromDownstream arb) = true := by simp [State.keepsDown, State.fromDownstream, down]
    simp only [if_neg up, if_neg keepsUp, if_pos down, if_pos keeps, State.refreshDown]
    split_ifs with silent
    · rw [State.post_room _ _ (by exact room), ← down.2, neighbourAction_position]
      rfl
    · rw [Port.posted_nil]
      rfl
  · have keeps : ¬ (s.keepsDown && s.fromDownstream arb) = true := by
      simpa [State.keepsDown, State.fromDownstream] using down
    simp only [if_neg up, if_neg keepsUp, if_neg down, if_neg keeps, Port.posted_nil]

theorem State.countDiscarded_refreshed (s : State) (arb : Arbitration) (now : Nat) :
    s.countDiscarded.refreshed arb now = { s.refreshed arb now with discarded := satInc16 s.handoff.discarded } := by
  unfold State.refreshed State.countDiscarded
  dsimp only
  split_ifs <;> rfl

/-! ### O46 -/

/-- In STOPPED no frame acts, and outside PLACED, TRACKING and PARKED none but a CLAIM (R13). -/
theorem frameActs_idle {c : Instr} {dt : Nat} {arb : Arbitration} (h : receivedFrame c = some (dt, arb))
    (idle : s.startup.station = .stopped
      ∨ (∀ dt arb position flags, c ≠ .claimReceived dt arb position flags) ∧ s.startup.station.operating = false) :
    frameActs c arb s = s := by
  have waits : ¬ s.startup.station.operating = true := by
    obtain stopped | ⟨-, off⟩ := idle
    · simp [stopped, StationState.operating]
    · simp [off]
  cases c
  case claimReceived dt' arb' position flags =>
    obtain stopped | ⟨other, -⟩ := idle
    · have claim : s.claimArrives arb position flags = s := by
        unfold State.claimArrives
        simp [stopped]
      show (s.claimArrives arb position flags).refreshFrom arb = s
      rw [claim]
      exact if_neg waits
    · exact absurd rfl (other dt' arb' position flags)
  case paceReceived => exact if_neg waits
  all_goals simp only [receivedFrame, reduceCtorEq] at h
  all_goals
    simp only [frameActs]
    exact s.handled_idle arb _ waits

/-- The frames that a station takes from own−1 alone (R53, R70, R84, R88). -/
theorem frameActs_fromAbove {c : Instr} (arb : Arbitration)
    (h : (match c with
      | .offerReceived _ _ _ _ _ => true
      | .passReceived _ _ _ _ _ _ => true
      | .lapseReceived _ _ _ _ _ _ _ => true
      | .bindReceived _ _ _ _ _ _ => true
      | _ => false) = true) :
    ∃ acts, ∀ s : State, frameActs c arb s = s.handled arb (fun v => v.fromAbove arb acts) := by
  cases c
  all_goals simp only [Bool.false_eq_true] at h
  all_goals exact ⟨_, fun _ => rfl⟩

theorem State.takeArrives_elsewhere (arb : Arbitration) (serial : Serial) (kind anon : Byte) (age : Nat)
    (h : arb.position ≠ s.startup.position + 1 ∨ s.startup.straps.last = true) :
    s.takeArrives arb serial kind anon age = s := by
  obtain h | h := h <;> simp [State.takeArrives, State.fromDownstream, h]

/-- A PACE that its position does not let in only refreshes a record (R80, R81). -/
theorem State.paceArrives_elsewhere (arb : Arbitration) (head : PaceHead) (report : Option (Option TakeRef))
    (above : arb.position + 1 ≠ s.startup.position ∨ s.startup.straps.first = true)
    (below : arb.position ≠ s.startup.position + 1 ∨ s.startup.straps.last = true) :
    s.paceArrives arb head report = s.refreshFrom arb := by
  have up : (s.keepsUp && s.fromUpstream arb) = false := by
    obtain h | h := above <;> simp [State.keepsUp, State.fromUpstream, h]
  have down : (s.keepsDown && s.fromDownstream arb) = false := by
    obtain h | h := below <;> simp [State.keepsDown, State.fromDownstream, h]
  simp [State.paceArrives, up, down]

/-- Settles O46: what each frame leaves to its block, and the refresh where it finds room. -/
theorem framesNotActedOn : Obligations.FramesNotActedOn := by
  intro c dt arb s received room reading claim fromAbove take pace d ignored
  have run := exec_receivedFrame received s
  have acted (read : reading) (h : ¬ (s.startup.station.operating = true ∧ arb.position = s.startup.position)) :
      exec c s = .next (frameActs c arb d) := by
    rw [run, s.receive_acts dt arb _ (s.reading_iff.mpr read) h]
  have refreshed (operating : s.startup.station.operating = true) : d.refreshFrom arb = ignored :=
    d.refreshFrom_room arb operating room
  refine ⟨?_, ?_, ?_, ?_⟩
  · intro unread
    rw [run, s.receive_unread dt arb _ (fun h => unread (s.reading_iff.mp h))]
  · intro read idle
    have off : ¬ s.startup.station.operating = true := by
      obtain stopped | ⟨-, off⟩ := idle
      · simp [stopped, StationState.operating]
      · simp [off]
    rw [acted read (fun h => off h.1), frameActs_idle received]
    refine idle.imp id (fun h => ⟨?_, h.2⟩)
    rintro dt' arb' position flags rfl
    exact absurd h.1 (by simp [claim])
  · intro read waits above upstream
    have operating : s.startup.station.operating = true := by
      obtain w | w := waits <;> simp [w, StationState.operating]
    obtain ⟨acts, handled⟩ := frameActs_fromAbove arb above
    rw [acted read (fun h => by omega), handled, State.handled_operating _ _ (by exact operating),
      State.fromAbove_discarded _ _ (by exact upstream) (by exact waits),
      State.refreshFrom_room _ _ (by exact operating) (by exact room), State.countDiscarded_refreshed]
    rfl
  · intro read operating other cases
    rw [acted read (fun h => other h.2), ← refreshed operating]
    congr 1
    obtain ⟨above, elsewhere⟩ | ⟨isTake, elsewhere⟩ | ⟨isPace, above, below⟩ := cases
    · obtain ⟨acts, handled⟩ := frameActs_fromAbove arb above
      rw [handled, State.handled_operating _ _ (by exact operating), State.fromAbove_elsewhere _ _ (by exact elsewhere)]
    · cases c
      case takeReceived =>
        simp only [frameActs]
        rw [State.handled_operating _ _ (by exact operating), State.takeArrives_elsewhere _ _ _ _ _ (by exact elsewhere)]
      all_goals exact absurd isTake (by simp [take])
    · cases c
      case paceReceived =>
        simp only [frameActs]
        rw [if_pos (by exact operating), State.paceArrives_elsewhere _ _ _ (by exact above) (by exact below)]
      all_goals exact absurd isPace (by simp [pace])

end Sys2Proof.Machine
end


section
/-!
Joins that arrive (R84 to R88).
-/

namespace Sys2Proof.Machine

variable {s u t : State}

/-! ### The refresh behind an entry -/

/-- The refresh that follows an entry posts its NEIGHBOUR action behind the entry's own (R80). -/
theorem State.after_refreshFrom (w : State) (h : HandOff) (strobe : Option Nat) (frames : List QueuedFrame)
    (tag : Option SetTag) (posted : List Action) (arb : Arbitration) (operating : w.startup.station.operating = true)
    (room : w.port.actions.length + posted.length < 16) :
    (w.after h strobe frames tag posted).refreshFrom arb
      = w.after (State.refreshed { w with handoff := h } arb w.now) strobe frames tag
          (posted ++ State.returnActions { w with handoff := h } arb) := by
  rw [State.refreshFrom_room _ _ (by exact operating) (by simpa [State.after, Port.posted] using room)]
  unfold State.after
  rw [← Port.posted_posted]
  rfl

/-- The refresh leaves the expectations and the last take alone. -/
theorem State.refreshed_congr (d w : State) (arb : Arbitration) (now : Nat) (left : List Expectation)
    (last : Option TakeRef) (startup : w.startup = d.startup) :
    State.refreshed { w with handoff := { d.handoff with expectations := left, lastTake := last } } arb now
      = { d.refreshed arb now with expectations := left, lastTake := last } := by
  unfold State.refreshed
  dsimp only
  rw [startup]
  split_ifs <;> rfl

theorem State.returnActions_congr (d w : State) (arb : Arbitration) (left : List Expectation)
    (last : Option TakeRef) (startup : w.startup = d.startup) :
    State.returnActions { w with handoff := { d.handoff with expectations := left, lastTake := last } } arb
      = d.returnActions arb := by
  unfold State.returnActions
  dsimp only
  rw [startup]

/-! ### The arrival of a join -/

/-- A join that arrives with room for its frames and actions (R84, R88). -/
theorem State.joinArrives_eq (d : State) (origin : Origin) (serial : Serial) (tag : Option SetTag) (estimated : Bool)
    (overrun age : Nat) (left : List Expectation) (before : List Action) {r : FeatureRecord}
    (consumed : d.consumeJoin serial = d.before { d.handoff with expectations := left } d.entry before)
    (record : d.joinRecord origin serial tag age = r) (places : d.mill.queue.length + 2 ≤ 8)
    (room : d.port.actions.length + before.length + (d.entryFaults r).length + 1 ≤ 16) :
    d.joinArrives origin serial tag estimated overrun age
      = ((d.before { d.handoff with expectations := left } d.entry before).enterZone r).after
          { d.handoff with expectations := left, lastTake := some { serial := serial, kind := .join } }
          (some (d.now + d.startup.config.strobeWidth))
          (offerFrame d.startup.straps.last serial .join tag
            ++ [{ body := .take serial .join 0#8, age := some { base := age, since := d.mill.sof.time }, flying := false }])
          tag
          [{ switchAction serial (origin == .lapsed) estimated (overrun + latenessMm d.mill.sof age) with
              tag := tagCode tag, ready := d.port.flagFor tag }] := by
  obtain ⟨queue, ready, startup, now, own, strobe, actions⟩ :=
    d.before_enterZone { d.handoff with expectations := left } d.entry r before (by omega)
  unfold State.joinArrives
  dsimp only
  rw [consumed, record]
  generalize (d.before { d.handoff with expectations := left } d.entry before).enterZone r = w
    at queue ready startup now own strobe actions ⊢
  have offers := offerFrame_length w.startup.straps.last serial .join tag
  rw [State.offer_postReady _ _ _ _ _ (by rw [queue]; omega) (by omega),
    State.enqueue_room _ _ _ rfl (by simp only [State.startStrobe, State.after, queue, List.length_append]; omega),
    ← Port.flagFor_congr ready, ← startup, ← now]
  simp only [State.startStrobe, State.after, State.withLastTake, own, List.append_assoc]

/-- The JOIN expectation that a PASS or LAPSE consumes, and those that it skips (R84). -/
theorem State.consumeJoin_split (d : State) (serial : Serial) {ahead left : List Expectation}
    (h : let names (x : Expectation) : Prop := x.kind = .join ∧ x.serial = serial
      ((∀ x ∈ d.handoff.expectations, ¬ names x) ∧ ahead = [] ∧ left = d.handoff.expectations)
        ∨ ∃ e ∈ d.handoff.expectations,
            d.handoff.expectations = ahead ++ e :: left ∧ (∀ x ∈ ahead, ¬ names x) ∧ names e)
    (room : d.port.actions.length + ahead.length ≤ 16) :
    d.consumeJoin serial = d.before { d.handoff with expectations := left } d.entry (ahead.map skipped) := by
  unfold State.consumeJoin
  obtain ⟨missing, rfl, rfl⟩ | ⟨e, -, stands, skips, found⟩ := h
  · rw [splitFirst_none.mpr (by simpa using missing)]
    simp [State.before]
  · rw [stands, splitFirst_append (by simpa using found) (by simpa using skips)]
    exact State.postAll_room _ _ (by simpa using room)

/-- A set tag of a frame (section 9.6.1). -/
theorem tagOfByte_eq {b : Byte} {tag : Option SetTag} (absent : b = 255#8 → tag = none)
    (present : ∀ n : SetTag, b.toNat = n.val → tag = some n) : tagOfByte b = tag := by
  unfold tagOfByte
  split_ifs with h
  · exact (present ⟨b.toNat, h⟩ rfl).symm
  · refine (absent (BitVec.eq_of_toNat_eq ?_)).symm
    have := b.isLt
    simp only [BitVec.toNat_ofNat]
    omega

theorem State.joinKnown_iff (d : State) (serial : Serial) :
    d.joinKnown serial = true
      ↔ (∃ q ∈ d.zone.queue, q.kind = .join ∧ q.serial = serial)
        ∨ d.handoff.lastTake = some { serial := serial, kind := .join } := by
  simp [State.joinKnown]

/-- A PASS, or a LAPSE of a join that is not known yet, in TRACKING. -/
theorem joinFrame_unknown (dt : Nat) (arb : Arbitration) (serial : Serial) (label flags : Byte) (overrun age : BitVec 16)
    (lapse : Bool) (d : State) (tracking : d.startup.station = .tracking) (upstream : arb.position + 1 = d.startup.position)
    (new : lapse = false ∨ ¬ d.joinKnown serial = true) :
    frameActs
        (if lapse then .lapseReceived dt arb serial label flags overrun age
         else .passReceived dt arb serial label flags age)
        arb d
      = (d.joinArrives (if lapse then .lapsed else .passed) serial (tagOfByte label) (flags.getLsbD 0)
          (if lapse then overrun.toNat else 0) age.toNat).refreshFrom arb := by
  have operating : d.startup.station.operating = true := by rw [tracking]; rfl
  cases lapse with
  | false =>
    simp only [Bool.false_eq_true, if_false, frameActs]
    rw [d.handled_operating arb _ operating, d.fromAbove_tracking arb _ upstream tracking]
  | true =>
    simp only [if_true, frameActs]
    rw [d.handled_operating arb _ operating, d.fromAbove_tracking arb _ upstream tracking, State.lapseActs,
      if_neg (new.resolve_left (by simp))]

/-- A LAPSE of a known join in TRACKING. -/
theorem lapseFrame_known (dt : Nat) (arb : Arbitration) (serial : Serial) (label flags : Byte) (overrun age : BitVec 16)
    (d : State) (tracking : d.startup.station = .tracking) (upstream : arb.position + 1 = d.startup.position)
    (known : d.joinKnown serial = true) :
    frameActs (.lapseReceived dt arb serial label flags overrun age) arb d = d.refreshFrom arb := by
  have operating : d.startup.station.operating = true := by rw [tracking]; rfl
  simp only [frameActs]
  rw [d.handled_operating arb _ operating, d.fromAbove_tracking arb _ upstream tracking, State.lapseActs, if_pos known]

/-- Settles O50: the frame is brought to the arrival of its join, and the refresh follows behind the entry. -/
theorem joinsArrive : Obligations.JoinsArrive := by
  intro dt arb serial label flags overrun age lapse s reading tracking upstream places waits c d h back known sof rollBack
    stripBack lateness record take switch
  have operating : d.startup.station.operating = true := by
    show s.startup.station.operating = true
    rw [tracking]
    rfl
  have received : receivedFrame c = some (dt, arb) := by cases lapse <;> rfl
  have run : exec c s = .next (frameActs c arb d) := by
    rw [exec_receivedFrame received, s.receive_acts dt arb _ reading (fun clash => by omega)]
  have knows : d.joinKnown serial = true ↔ known := d.joinKnown_iff serial
  refine ⟨?_, ?_⟩
  · rintro rfl join
    refine run.trans (congrArg _ ?_)
    exact (lapseFrame_known dt arb serial label flags overrun age d tracking upstream (knows.mpr join)).trans
      (d.refreshFrom_room arb operating waits)
  · intro tag ahead left new absent present consumes room
    have enough : d.port.actions.length + ahead.length + (d.entryFaults (record tag)).length + 2 ≤ 16 := room
    have consumed := d.consumeJoin_split serial consumes (by omega)
    have arrives :=
      d.joinArrives_eq (if lapse then .lapsed else .passed) serial tag (flags.getLsbD 0)
        (if lapse then overrun.toNat else 0) age.toNat left (ahead.map skipped) consumed
        (r := record tag) rfl places (by rw [List.length_map]; omega)
    have acted :=
      joinFrame_unknown dt arb serial label flags overrun age lapse d tracking upstream
        (new.imp id (fun fresh join => fresh (knows.mp join)))
    rw [tagOfByte_eq absent present, arrives] at acted
    obtain ⟨-, -, startup, now, -, -, actions⟩ :=
      d.before_enterZone { d.handoff with expectations := left } d.entry (record tag) (ahead.map skipped)
        (by rw [List.length_map]; omega)
    rw [List.length_map] at actions
    rw [State.after_refreshFrom _ _ _ _ _ _ _ (by rw [startup]; exact operating)
        (by rw [actions, List.length_singleton]; omega),
      State.refreshed_congr d _ arb _ left _ startup, State.returnActions_congr d _ arb left _ startup, now] at acted
    have report :
        { switchAction serial ((if lapse then Origin.lapsed else .passed) == .lapsed) (flags.getLsbD 0)
            ((if lapse then overrun.toNat else 0) + latenessMm d.mill.sof age.toNat) with
          tag := tagCode tag, ready := d.port.flagFor tag }
        = switch tag := by
      have origin : ((if lapse then Origin.lapsed else .passed) == .lapsed) = lapse := by cases lapse <;> rfl
      unfold switchAction saturate16
      rw [origin, min_comm]
      rfl
    rw [report] at acted
    refine ⟨_, run.trans (congrArg _ acted), ?_⟩
    obtain ⟨entered, handoff, sensing, base, entry, strobe⟩ :=
      d.after_enters { d.handoff with expectations := left }
        { d.refreshed arb d.now with expectations := left, lastTake := some { serial := serial, kind := .join } } d.entry
        (some (d.now + d.startup.config.strobeWidth)) (record tag)
        (offerFrame s.startup.straps.last serial .join tag ++ [take]) tag (ahead.map skipped) ([switch tag] ++ back)
        operating (by simp) (by rw [List.length_map]; omega)
    exact ⟨entered, handoff, strobe, base, sensing, entry⟩

end Sys2Proof.Machine
end


section
/-!
The position clash (R14, R140). A level held too long delivers its event before the clash, and the time base at which it does so
shows in nothing that the entry into STOPPED leaves: the sensing paths never look at the time base, and the filling times of
the slots are lost with the slots.
-/

namespace Sys2Proof.Machine

variable {s u t : State}

/-! ### States without their times -/

def Slot.untimed (slot : Slot) : Slot := { slot with filledAt := 0 }

def Slots.untimed (x : Slots) : Slots where
  raise := x.raise.untimed
  veto := x.veto.untimed
  ask := x.ask.untimed
  drop := x.drop.untimed

/-- The state without its time base and the filling times of its slots. -/
def State.untimed (s : State) : State :=
  { s with now := 0, mill := { s.mill with slots := s.mill.slots.untimed } }

@[simp] theorem Slot.untimed_merge (slot : Slot) (now : Nat) (m : LineMask) :
    (slot.merge now m).untimed = slot.untimed.merge 0 m := by
  unfold Slot.merge
  simp only [apply_ite Slot.untimed]
  rfl

@[simp] theorem Slot.untimed_remove (slot : Slot) (m : LineMask) :
    (slot.remove m).untimed = slot.untimed.remove m := by
  unfold Slot.remove
  simp only [apply_ite Slot.untimed]
  rfl

@[simp] theorem State.untimed_merge (s : State) (kind : LineKind) (m : LineMask) :
    (s.merge kind m).untimed = s.untimed.merge kind m := by
  cases kind <;> simp [State.merge, State.modifySlot, Slots.modify, State.untimed, Slots.untimed]

@[simp] theorem State.untimed_unmerge (s : State) (kind : LineKind) (m : LineMask) :
    (s.unmerge kind m).untimed = s.untimed.unmerge kind m := by
  cases kind <;> simp [State.unmerge, State.modifySlot, Slots.modify, State.untimed, Slots.untimed]

@[simp] theorem State.untimed_mapLines (s : State) (m : LineMask) (f : TrainLine → TrainLine) :
    (s.mapLines m f).untimed = s.untimed.mapLines m f := rfl

/-- What the paths of stand sensing look at stands without the times as it does with them. -/
@[simp] theorem State.untimed_frame (s : State) :
    s.untimed.startup = s.startup ∧ s.untimed.travel = s.travel ∧ s.untimed.sensing = s.sensing ∧ s.untimed.zone = s.zone
      ∧ s.untimed.handoff = s.handoff ∧ s.untimed.entry = s.entry ∧ s.untimed.lines = s.lines ∧ s.untimed.port = s.port
      ∧ s.untimed.sources = s.sources ∧ s.untimed.copies = s.copies ∧ s.untimed.contributions = s.contributions
      ∧ s.untimed.foreignAsks = s.foreignAsks ∧ (∀ phase, s.untimed.askPhase phase = s.askPhase phase) := by
  exact ⟨rfl, rfl, rfl, rfl, rfl, rfl, rfl, rfl, rfl, rfl, rfl, rfl, fun _ => rfl⟩

/-! ### The operations of the sensing paths -/

@[simp] theorem State.untimed_endAsks (s : State) (m : LineMask) : (s.endAsks m).untimed = s.untimed.endAsks m := by
  simp [State.endAsks]

@[simp] theorem State.untimed_beginAsks (s : State) (m : LineMask) : (s.beginAsks m).untimed = s.untimed.beginAsks m := by
  simp [State.beginAsks]

@[simp] theorem State.untimed_contributionsRise (s : State) (m : LineMask) :
    (s.contributionsRise m).untimed = s.untimed.contributionsRise m := by
  simp [State.contributionsRise]

@[simp] theorem State.untimed_contributionsFall (s : State) (m : LineMask) :
    (s.contributionsFall m).untimed = s.untimed.contributionsFall m := by
  simp [State.contributionsFall]

@[simp] theorem State.untimed_formContributions (s : State) (m : LineMask) :
    (s.formContributions m).untimed = s.untimed.formContributions m := by
  simp [State.formContributions, apply_ite State.untimed]

@[simp] theorem State.untimed_post (s : State) (a : Action) : (s.post a).untimed = s.untimed.post a := rfl

@[simp] theorem State.untimed_postAll (s : State) (as : List Action) : (s.postAll as).untimed = s.untimed.postAll as := by
  induction as generalizing s with
  | nil => rfl
  | cons a as ih => exact ih (s.post a)

@[simp] theorem State.untimed_withZone (s : State) (queue : List FeatureRecord) :
    (s.withZone queue).untimed = s.untimed.withZone queue := rfl

@[simp] theorem State.untimed_setOverdueFlag (s : State) : s.setOverdueFlag.untimed = s.untimed.setOverdueFlag := by
  unfold State.setOverdueFlag
  rw [State.untimed_formContributions]
  rfl

@[simp] theorem State.untimed_makeRoom (s : State) : s.makeRoom.untimed = s.untimed.makeRoom := by
  unfold State.makeRoom
  simp only [State.untimed_frame]
  split_ifs
  · rfl
  · split <;> simp

@[simp] theorem State.untimed_enterZone (s : State) (r : FeatureRecord) :
    (s.enterZone r).untimed = s.untimed.enterZone r := by
  have room (x : State) : x.untimed.makeRoom.zone = x.makeRoom.zone := by
    rw [← State.untimed_makeRoom]
    rfl
  simp [State.enterZone, ← State.untimed_postAll, room]

@[simp] theorem State.untimed_enqueue (s : State) (body : FrameBody) (age : Option AgeCount) :
    (s.enqueue body age).untimed = s.untimed.enqueue body age := by
  unfold State.enqueue
  simp only [apply_ite State.untimed]
  rfl

@[simp] theorem State.untimed_offer (s : State) (serial : Serial) (kind : FeatureKind) (tag : Option SetTag) :
    (s.offer serial kind tag).untimed = s.untimed.offer serial kind tag := by
  simp [State.offer, apply_ite State.untimed]

@[simp] theorem State.untimed_consumeReady (s : State) (tag : Option SetTag) :
    (s.consumeReady tag).untimed = s.untimed.consumeReady tag := by
  cases tag <;> rfl

@[simp] theorem State.untimed_postReady (s : State) (tag : Option SetTag) (a : Action) :
    (s.postReady tag a).untimed = s.untimed.postReady tag a := by
  have flag : s.untimed.readyFlag tag = s.readyFlag tag := by cases tag <;> rfl
  simp [State.postReady, flag]

@[simp] theorem State.untimed_postMismatch (s : State) (mismatch : Bool) (serial : Serial) (kind : FeatureKind)
    (tag : Option SetTag) :
    (s.postMismatch mismatch serial kind tag).untimed = s.untimed.postMismatch mismatch serial kind tag := by
  simp [State.postMismatch, apply_ite State.untimed]

@[simp] theorem State.untimed_remove (s : State) (ahead : List FeatureRecord) (cls : HandedClass) (own : Action)
    (behind : List FeatureRecord) : (s.remove ahead cls own behind).untimed = s.untimed.remove ahead cls own behind := by
  simp [State.remove]

@[simp] theorem State.untimed_countEarly (s : State) (r : FeatureRecord) :
    (s.countEarly r).untimed = s.untimed.countEarly r := by
  unfold State.countEarly
  simp only [apply_ite State.untimed]
  rfl

@[simp] theorem State.untimed_offerExitSample (s : State) (r : FeatureRecord) (w : TravelWord) :
    (s.offerExitSample r w).untimed = s.untimed.offerExitSample r w := by
  unfold State.offerExitSample
  simp only [apply_ite State.untimed]
  rfl

/-! ### The sensing paths -/

@[simp] theorem State.untimed_consumeExpected (s : State) (kind : FeatureKind) :
    (s.consumeExpected kind).untimed = s.untimed.consumeExpected kind := by
  have same : s.untimed.expected kind = s.expected kind := rfl
  unfold State.consumeExpected
  rw [same]
  split
  · rw [State.untimed_postAll]
    rfl
  · rfl

@[simp] theorem State.untimed_detectedTake (s : State) (kind : FeatureKind) (ev : SenseEvent) :
    (s.detectedTake kind ev).untimed = s.untimed.detectedTake kind ev := by
  have last (x : State) (l : Option TakeRef) : (x.withLastTake l).untimed = x.untimed.withLastTake l := rfl
  simp only [State.detectedTake, last, State.untimed_postReady, State.untimed_enqueue, State.untimed_offer,
    State.untimed_enterZone, State.untimed_consumeExpected]
  rfl

@[simp] theorem State.untimed_deliverLoad (s : State) (kind : FeatureKind) (ev : SenseEvent) :
    (s.deliverLoad kind ev).untimed = s.untimed.deliverLoad kind ev := by
  have bite : (s.entryBite ev).untimed = s.untimed.entryBite ev := by
    simp only [State.entryBite, State.untimed_postReady, State.untimed_offer, State.untimed_postMismatch,
      State.untimed_enterZone]
    rfl
  have release : (s.entryRelease ev).untimed = s.untimed.entryRelease ev := by
    simp only [State.entryRelease, State.untimed_postReady, State.untimed_offer, State.untimed_enterZone]
    rfl
  simp [State.deliverLoad, apply_ite State.untimed, bite, release]

@[simp] theorem State.untimed_exitTake (s : State) (kind : FeatureKind) (ev : SenseEvent) :
    (s.exitTake kind ev).untimed = s.untimed.exitTake kind ev := by
  have zone : s.untimed.zone = s.zone := rfl
  unfold State.exitTake
  rw [zone]
  split
  · rfl
  · simp

/-- A level on LOAD is accepted alike whatever the time base says. -/
theorem State.untimed_acceptLoad (h : s.untimed = t.untimed) : s.acceptLoad.untimed = t.acceptLoad.untimed := by
  have startup : s.startup = t.startup := (congrArg State.startup h : _)
  have sensing : s.sensing = t.sensing := (congrArg State.sensing h : _)
  have armed (x : State) (m : Nat) (d : Detector) : ((x.reach m).withLoad d).untimed = x.untimed.withLoad d := rfl
  unfold State.acceptLoad
  rw [sensing, startup]
  split <;> simp only [State.untimed_deliverLoad, armed, h]

/-- A level on EXIT is accepted alike whatever the time base says. -/
theorem State.untimed_acceptExit (h : s.untimed = t.untimed) : s.acceptExit.untimed = t.acceptExit.untimed := by
  have startup : s.startup = t.startup := (congrArg State.startup h : _)
  have sensing : s.sensing = t.sensing := (congrArg State.sensing h : _)
  have armed (x : State) (m : Nat) (d : Detector) : ((x.reach m).withExit d).untimed = x.untimed.withExit d := rfl
  unfold State.acceptExit
  rw [sensing, startup]
  split <;> simp only [State.untimed_exitTake, armed, h]

theorem State.untimed_settleLoad (moment : Nat) (h : s.untimed = t.untimed) :
    (s.settleLoad moment).untimed = (t.settleLoad moment).untimed := by
  have startup : s.startup = t.startup := (congrArg State.startup h : _)
  have sensing : s.sensing = t.sensing := (congrArg State.sensing h : _)
  unfold State.settleLoad
  rw [sensing, startup]
  split_ifs
  · exact State.untimed_acceptLoad h
  · exact h

theorem State.untimed_settleExit (moment : Nat) (h : s.untimed = t.untimed) :
    (s.settleExit moment).untimed = (t.settleExit moment).untimed := by
  have startup : s.startup = t.startup := (congrArg State.startup h : _)
  have sensing : s.sensing = t.sensing := (congrArg State.sensing h : _)
  unfold State.settleExit
  rw [sensing, startup]
  split_ifs
  · exact State.untimed_acceptExit h
  · exact h

/-- A position clash leaves nothing of the times but the time base. -/
theorem State.clash_untimed (arb : Arbitration) (h : s.untimed = t.untimed) (now : s.now = t.now) :
    (s.withReceiver .hunt 6).clash arb = (t.withReceiver .hunt 6).clash arb := by
  have forget (x : State) :
      (x.withReceiver .hunt 6).clash arb = { (x.untimed.withReceiver .hunt 6).clash arb with now := x.now } := rfl
  rw [forget s, forget t, h, now]

/-! ### O45 -/

/-- A level that is overdue, with the time of its edge (R41). -/
theorem State.overdue_iff (s : State) (d : Detector) (moment : Nat) :
    s.overdue d moment ↔ d.edgeTime = some (edgeMoment d) ∧ edgeMoment d + s.startup.config.qualify < moment := by
  cases d <;> simp [State.overdue, Detector.edgeTime, edgeMoment]

/-- A level that is not overdue is not settled (R41). -/
theorem State.not_overdue_edgeTime {d : Detector} {moment : Nat} (h : ¬ s.overdue d moment) {time : Nat}
    (edge : d.edgeTime = some time) : moment ≤ time + s.startup.config.qualify := by
  cases d <;> simp_all [State.overdue, Detector.edgeTime]

@[simp] theorem State.deliverLoad_sensing (s : State) (kind : FeatureKind) (ev : SenseEvent) :
    (s.deliverLoad kind ev).sensing = s.sensing := by
  unfold State.deliverLoad
  split_ifs <;> simp

/-- The time base and the detector after a level on LOAD has been accepted (R41). -/
theorem State.acceptLoad_edge (s : State) {time : Nat} (h : s.sensing.load.edgeTime = some time) :
    s.acceptLoad.now = max s.now (time + s.startup.config.qualify) ∧ s.acceptLoad.sensing.load.edgeTime = none := by
  unfold State.acceptLoad
  cases edge : s.sensing.load <;> simp_all [Detector.edgeTime, State.reach, State.withLoad]

/-- The time base and the detector after a level on EXIT has been accepted (R41). -/
theorem State.acceptExit_edge (s : State) {time : Nat} (h : s.sensing.exit.edgeTime = some time) :
    s.acceptExit.now = max s.now (time + s.startup.config.qualify) ∧ s.acceptExit.sensing.exit.edgeTime = none := by
  unfold State.acceptExit
  cases edge : s.sensing.exit <;> simp_all [Detector.edgeTime, State.reach, State.withExit]

/-- Settling a level leaves the time base at the moment at which it is settled. -/
theorem State.settle_now (s : State) (moment : Nat) (h : s.now = moment) :
    (s.settleLoad moment).now = moment ∧ (s.settleExit moment).now = moment := by
  refine ⟨?_, ?_⟩
  · unfold State.settleLoad Detector.heldLonger
    cases edge : s.sensing.load.edgeTime with
    | none => simpa using h
    | some time =>
      have now := (s.acceptLoad_edge edge).1
      split_ifs with held
      · simp only [decide_eq_true_eq] at held
        omega
      · exact h
  · unfold State.settleExit Detector.heldLonger
    cases edge : s.sensing.exit.edgeTime with
    | none => simpa using h
    | some time =>
      have now := (s.acceptExit_edge edge).1
      split_ifs with held
      · simp only [decide_eq_true_eq] at held
        omega
      · exact h

/-- Without a qualification on LOAD only EXIT is settled. -/
theorem State.settleBoth_exit (s : State) (moment : Nat) (h : s.sensing.load.edgeTime = none) :
    s.settleBoth moment = s.settleExit moment := by
  unfold State.settleBoth
  rw [s.settleLoad_early moment (by simp [h]), State.settleLoad_early _ moment (by simp [h])]
  exact ite_self _

/-- Without a qualification on EXIT only LOAD is settled. -/
theorem State.settleBoth_load (s : State) (moment : Nat) (h : s.sensing.exit.edgeTime = none) :
    s.settleBoth moment = s.settleLoad moment := by
  unfold State.settleBoth
  rw [s.settleExit_early moment (by simp [h]), State.settleExit_early _ moment (by simp [h])]
  exact ite_self _

/-- The level of the earlier edge is settled first (R41, R43; log entries 2 and 28). -/
theorem State.settleBoth_loadFirst (s : State) (moment : Nat) {l : Nat} (load : s.sensing.load.edgeTime = some l)
    (held : l + s.startup.config.qualify < moment) (order : ∀ e, s.sensing.exit.edgeTime = some e → l ≤ e) :
    s.settleBoth moment = s.acceptLoad.settleExit moment := by
  have first : s.sensing.exitFirst = false := by
    unfold Sensing.exitFirst
    cases exit : s.sensing.exit.edgeTime with
    | none => simp [load]
    | some e => simpa [load] using order e exit
  unfold State.settleBoth
  rw [first, s.settleLoad_late moment l load held]
  rfl

theorem State.settleBoth_exitFirst (s : State) (moment : Nat) {e : Nat} (exit : s.sensing.exit.edgeTime = some e)
    (held : e + s.startup.config.qualify < moment) (order : ∀ l, s.sensing.load.edgeTime = some l → e < l) :
    s.settleBoth moment = s.acceptExit.settleLoad moment := by
  cases load : s.sensing.load.edgeTime with
  | none =>
    rw [s.settleBoth_exit moment load, s.settleExit_late moment e exit held,
      State.settleLoad_early _ moment (by simp [load])]
  | some l =>
    have first : s.sensing.exitFirst = true := by
      unfold Sensing.exitFirst
      simpa [exit, load] using order l load
    unfold State.settleBoth
    rw [first, s.settleExit_late moment e exit held]
    rfl

/-- The frame that clashes is taken to its clash by any frame of the same sender in a state that still reads it. -/
theorem exec_clash {c : Instr} {dt : Nat} {arb : Arbitration} (received : receivedFrame c = some (dt, arb))
    (reading : s.reading = true) (operating : s.startup.station.operating = true)
    (own : arb.position = s.startup.position) :
    exec c s = .next ((((s.elapse dt).settleBoth (s.now + dt)).withReceiver .hunt 6).clash arb) := by
  rw [exec_receivedFrame received, s.receive_clash dt arb _ reading operating own]

theorem edgeMoment_eq {d : Detector} {time : Nat} (h : d.edgeTime = some time) : edgeMoment d = time := by
  cases d <;> simp_all [Detector.edgeTime, edgeMoment]

/-- What is left of a clash does not depend on whether the level was accepted beforehand. -/
theorem clash_after {c : Instr} {dt : Nat} {arb : Arbitration} {v : State} (received : receivedFrame c = some (dt, arb))
    (reading : s.reading = true) (operating : s.startup.station.operating = true)
    (own : arb.position = s.startup.position) (startup : v.startup = s.startup) (reads : v.reading = s.reading)
    (now : v.now ≤ s.now + dt)
    (same : ((s.elapse dt).settleBoth (s.now + dt)).untimed
      = ((v.elapse (s.now + dt - v.now)).settleBoth (s.now + dt)).untimed) :
    exec c s = exec (.raiseReceived (s.now + dt - v.now) arb 0#8) v := by
  have both (x : State) (h : x.now = s.now + dt) : (x.settleBoth (s.now + dt)).now = s.now + dt := by
    unfold State.settleBoth
    split_ifs
    · exact (State.settle_now _ _ (State.settle_now _ _ h).2).1
    · exact (State.settle_now _ _ (State.settle_now _ _ h).1).2
  have moment : v.now + (s.now + dt - v.now) = s.now + dt := by omega
  rw [exec_clash received reading operating own,
    exec_clash (c := .raiseReceived (s.now + dt - v.now) arb 0#8) rfl (reads.trans reading) (by rw [startup]; exact operating)
      (by rw [startup]; exact own), moment]
  exact congrArg _ (State.clash_untimed arb same ((both _ rfl).trans (both _ moment).symm))

/-- A position clash with room for its FAULT leads to STOPPED (R14, R140). -/
theorem State.clash_stops (d : State) (arb : Arbitration) (room : d.port.actions.length < 16) :
    State.stops
      { d with
        port :=
          d.port.posted
            [{ kind := .fault, serial := 0#16, feature := BitVec.ofNat 8 arb.position, tag := 255#8, value := 5#16 }] }
      (d.clash arb) := by
  unfold State.clash
  rw [d.post_room _ room]
  refine ⟨rfl, fun n => ?_⟩
  have all : (255#8).getLsbD n = true := by
    revert n
    decide
  simp [State.enterStopped, all, TrainLine.stopWindow, faultAction]

/-- Settles O45: a level held too long is accepted before the clash or at it, and the clash leaves the same of both. -/
theorem positionClashStops : Obligations.PositionClashStops := by
  intro c dt arb s received reading operating own load exit after
  refine ⟨?_, ?_, ?_⟩
  · intro held first
    obtain ⟨edge, late⟩ := (s.overdue_iff _ _).mp held
    obtain ⟨now, done⟩ := s.acceptLoad_edge edge
    refine ⟨s.acceptLoad, rfl, clash_after received reading operating own (by simp) (by simp [State.reading]) ?_ ?_⟩
    · omega
    · rw [(s.elapse dt).settleBoth_loadFirst _ edge late, State.settleBoth_exit _ _ (by exact done)]
      · exact State.untimed_settleExit _ (State.untimed_acceptLoad rfl)
      · intro e (exitEdge : s.sensing.exit.edgeTime = some e)
        by_contra earlier
        have := first ((s.overdue_iff _ _).mpr ⟨by rw [edgeMoment_eq exitEdge]; exact exitEdge, by
          rw [edgeMoment_eq exitEdge]; omega⟩)
        rw [edgeMoment_eq exitEdge] at this
        exact earlier this
  · intro held first
    obtain ⟨edge, late⟩ := (s.overdue_iff _ _).mp held
    obtain ⟨now, done⟩ := s.acceptExit_edge edge
    refine ⟨s.acceptExit, rfl, clash_after received reading operating own (by simp) (by simp [State.reading]) ?_ ?_⟩
    · omega
    · rw [(s.elapse dt).settleBoth_exitFirst _ edge late, State.settleBoth_load _ _ (by exact done)]
      · exact State.untimed_settleLoad _ (State.untimed_acceptExit rfl)
      · intro l (loadEdge : s.sensing.load.edgeTime = some l)
        by_contra later
        have := first ((s.overdue_iff _ _).mpr ⟨by rw [edgeMoment_eq loadEdge]; exact loadEdge, by
          rw [edgeMoment_eq loadEdge]; omega⟩)
        rw [edgeMoment_eq loadEdge] at this
        exact later this
  · intro loadShort exitShort room
    have settled : (s.elapse dt).settleBoth (s.now + dt) = s.elapse dt := by
      have loads := (s.elapse dt).settleLoad_early (s.now + dt) (fun _ => s.not_overdue_edgeTime loadShort)
      have exits := (s.elapse dt).settleExit_early (s.now + dt) (fun _ => s.not_overdue_edgeTime exitShort)
      unfold State.settleBoth
      rw [loads, exits, loads, ite_self]
    refine ⟨_, (exec_clash received reading operating own).trans (by rw [settled]), ?_⟩
    exact (s.delivered dt).clash_stops arb room

end Sys2Proof.Machine
end


section
/-!
The comparisons of a counted pulse (R8, R9, R10, R11, R30, R76, R83, R87, R90, R114): what each does is gathered, and what two
of them do one after the other is what has been gathered in their order.
-/

namespace Sys2Proof.Machine

variable {b u v : State}

/-! ### What comparisons gather -/

/-- Two examinations, one after the other. -/
def Examined.andThen (x y : Examined) : Examined where
  standing := y.standing
  actions := x.actions ++ y.actions
  frames := x.frames ++ y.frames
  overdueHead := x.overdueHead || y.overdueHead
  removed := x.removed || y.removed
  cut := x.cut || y.cut

/-- The lines that an examination forms afresh: TRIP after an overdue HEAD, THREAD after a removal (R10, R11). -/
def Examined.lines (x : Examined) : LineMask := (if x.overdueHead then 1#8 else 0#8) ||| (if x.removed then 2#8 else 0#8)

theorem Examined.lines_getLsbD (x : Examined) (n : Fin 8) :
    x.lines.getLsbD n = (decide (n = 0) && x.overdueHead || decide (n = 1) && x.removed) := by
  unfold Examined.lines
  cases x.overdueHead <;> cases x.removed <;> revert n <;> decide

theorem Examined.lines_andThen (x y : Examined) : (x.andThen y).lines = x.lines ||| y.lines := by
  apply LineMask.ext_fin
  intro n
  simp only [BitVec.getLsbD_or, Examined.lines_getLsbD, Examined.andThen, Bool.and_or_distrib_left]
  ac_rfl

/-- From `b` to `u` the part has done what the examination has gathered, and the records of `rest` still wait behind those that
stand. -/
structure State.Pulsed (b u : State) (rest : List FeatureRecord) (x : Examined) : Prop where
  zone : u.zone = { b.zone with queue := x.standing ++ rest, overdueFlag := b.zone.overdueFlag || x.overdueHead }
  port : u.port = b.port.posted x.actions
  mill : u.mill = { b.mill with queue := b.mill.queue ++ x.frames, slots := u.mill.slots }
  formed : b.linesFormed u x.lines
  still : x.overdueHead = false → x.removed = false → u.lines = b.lines ∧ u.mill.slots = b.mill.slots
  strobe : u.strobe = if x.cut then some (b.now + b.startup.config.strobeWidth) else b.strobe
  frame : u = { b with zone := u.zone, lines := u.lines, strobe := u.strobe, mill := u.mill, port := u.port }

theorem State.Pulsed.frames {rest : List FeatureRecord} {x : Examined} (h : b.Pulsed u rest x) :
    u.now = b.now ∧ u.pins = b.pins ∧ u.startup = b.startup ∧ u.travel = b.travel ∧ u.handoff = b.handoff := by
  rw [h.frame]
  exact ⟨rfl, rfl, rfl, rfl, rfl⟩

/-- The THREAD source moves with the untaken HEADs of the zone alone (R11). -/
theorem State.Pulsed.threadSource {rest : List FeatureRecord} {x : Examined} (h : b.Pulsed u rest x) :
    (b.zone.queue.any FeatureRecord.untakenHead = u.zone.queue.any FeatureRecord.untakenHead →
        u.sources.getLsbD 1 = b.sources.getLsbD 1)
      ∧ ((u.zone.queue.any FeatureRecord.untakenHead = true → b.zone.queue.any FeatureRecord.untakenHead = true) →
        u.sources.getLsbD 1 = true → b.sources.getLsbD 1 = true) := by
  obtain ⟨-, pins, startup, -, -⟩ := h.frames
  have source := u.sources_getLsbD 1
  have source' := b.sources_getLsbD 1
  rw [pins, startup, h.formed.2.2.2] at source
  generalize b.zone.queue.any FeatureRecord.untakenHead = x at source' ⊢
  generalize u.zone.queue.any FeatureRecord.untakenHead = y at source ⊢
  have thread : ∃ a, u.sources.getLsbD 1 = (a || y) ∧ b.sources.getLsbD 1 = (a || x) := by
    have other : decide ((1 : Fin 8) = 0) = false := rfl
    simp only [other, decide_true, Bool.false_and, Bool.or_false, Bool.true_and] at source source'
    exact ⟨_, source, source'⟩
  obtain ⟨a, now, before⟩ := thread
  rw [now, before]
  exact ⟨fun same => by rw [same], fun less some => by
    rw [Bool.or_eq_true] at some ⊢
    exact some.imp id less⟩

/-- The TRIP source once a HEAD is overdue (R10). -/
theorem State.Pulsed.tripSource {rest : List FeatureRecord} {x : Examined} (h : b.Pulsed u rest x)
    (overdue : b.zone.overdueFlag = true ∨ x.overdueHead = true) : u.sources.getLsbD 0 = true := by
  have source := u.sources_getLsbD 0
  have flag : u.zone.overdueFlag = true := by
    rw [h.zone]
    simpa using overdue
  rw [flag] at source
  simpa using source

/-- One examination after another. A line that both form afresh is changed once at most; THREAD needs saying. -/
theorem State.Pulsed.trans {p q : List FeatureRecord} {x y : Examined} (first : b.Pulsed u p x) (second : u.Pulsed v q y)
    (thread : x.removed = true → u.sources.getLsbD 1 = v.sources.getLsbD 1
      ∨ (y.removed = true ∧ u.sources.getLsbD 1 = b.contributions.getLsbD 1)) :
    b.Pulsed v q (x.andThen y) := by
  obtain ⟨now, -, startup, -, -⟩ := first.frames
  obtain ⟨now', -, -, -, -⟩ := second.frames
  have trip (overdue : x.overdueHead = true) : u.sources.getLsbD 0 = v.sources.getLsbD 0 := by
    rw [first.tripSource (.inr overdue), second.tripSource (.inl (by rw [first.zone]; simp [overdue]))]
  exact
    { zone := by
        rw [second.zone, first.zone]
        simp [Examined.andThen, Bool.or_assoc]
      port := by
        rw [second.port, first.port, Port.posted_posted]
        rfl
      mill := by
        rw [second.mill, first.mill]
        simp [Examined.andThen]
      formed := by
        have concerned (n : Fin 8) (hn : x.lines.getLsbD n = true) :
            n = 0 ∧ x.overdueHead = true ∨ n = 1 ∧ x.removed = true := by
          simpa only [Examined.lines_getLsbD, Bool.or_eq_true, Bool.and_eq_true, decide_eq_true_eq] using hn
        rw [Examined.lines_andThen]
        refine State.linesFormed_trans first.formed second.formed now' (fun n hx hy => ?_) (fun n hx _ => ?_)
        · obtain ⟨rfl, overdue⟩ | ⟨rfl, removed⟩ := concerned n hx
          · exact trip overdue
          · refine (thread removed).resolve_right fun again => ?_
            rw [Examined.lines_getLsbD, again.1] at hy
            exact absurd hy (by simp)
        · obtain ⟨rfl, overdue⟩ | ⟨rfl, removed⟩ := concerned n hx
          · exact .inl (trip overdue)
          · exact (thread removed).imp id And.right
      still := by
        simp only [Examined.andThen, Bool.or_eq_false_iff]
        rintro ⟨ox, oy⟩ ⟨rx, ry⟩
        obtain ⟨lines, slots⟩ := first.still ox rx
        obtain ⟨lines', slots'⟩ := second.still oy ry
        exact ⟨lines'.trans lines, slots'.trans slots⟩
      strobe := by
        rw [second.strobe, first.strobe, now, startup]
        cases hx : x.cut <;> cases hy : y.cut <;> simp [Examined.andThen, hx, hy]
      frame := by
        have last := second.frame
        rw [first.frame] at last
        exact last }

/-- Afterwards nothing is removed, so that THREAD need not be said. -/
theorem State.Pulsed.andThen {p q : List FeatureRecord} {x y : Examined} (first : b.Pulsed u p x) (second : u.Pulsed v q y)
    (heads : x.removed = true →
      u.zone.queue.any FeatureRecord.untakenHead = v.zone.queue.any FeatureRecord.untakenHead) :
    b.Pulsed v q (x.andThen y) :=
  first.trans second fun removed => .inl (second.threadSource.1 (heads removed)).symm

/-! ### The operations of a comparison -/

section

variable {standing rest : List FeatureRecord}

/-- An operation on the queue, the port, the places or STROBE that leaves the lines alone. -/
theorem State.pulsed_of_still (acts : List Action) (frames : List QueuedFrame) (cut : Bool)
    (zone : v.zone = { u.zone with queue := standing ++ rest }) (port : v.port = u.port.posted acts)
    (mill : v.mill = { u.mill with queue := u.mill.queue ++ frames })
    (strobe : v.strobe = if cut then some (u.now + u.startup.config.strobeWidth) else u.strobe)
    (frame : v = { u with zone := v.zone, strobe := v.strobe, mill := v.mill, port := v.port }) :
    u.Pulsed v rest { standing := standing, actions := acts, frames := frames, cut := cut } := by
  have lines : v.lines = u.lines := by rw [frame]
  have slots : v.mill.slots = u.mill.slots := by rw [mill]
  exact
    { zone := by rw [zone, Bool.or_false]
      port := port
      mill := by rw [mill]
      formed := by
        have none : Examined.lines { standing := standing, actions := acts, frames := frames, cut := cut } = 0#8 := by
          simp [Examined.lines]
        rw [none]
        exact State.linesFormed_none lines slots
      still := fun _ _ => ⟨lines, slots⟩
      strobe := strobe
      frame := by
        rw [lines]
        exact frame }

theorem State.pulsed_withZone (u : State) : u.Pulsed (u.withZone (standing ++ rest)) rest { standing := standing } :=
  State.pulsed_of_still [] [] false rfl (Port.posted_nil _).symm (by simp [State.withZone]) rfl rfl

theorem State.pulsed_refl (stands : u.zone.queue = standing ++ rest) : u.Pulsed u rest { standing := standing } :=
  State.pulsed_of_still [] [] false (by rw [← stands]) (Port.posted_nil _).symm (by simp) rfl rfl

theorem State.pulsed_post (stands : u.zone.queue = standing ++ rest) (a : Action) (room : u.port.actions.length < 16) :
    u.Pulsed (u.post a) rest { standing := standing, actions := [a] } := by
  rw [u.post_room a room]
  exact State.pulsed_of_still [a] [] false (by rw [← stands]) rfl (by simp) rfl rfl

theorem State.pulsed_enqueue (stands : u.zone.queue = standing ++ rest) (body : FrameBody) (age : Option AgeCount)
    (notPace : body.isPace = false) (places : u.mill.queue.length < 8) :
    u.Pulsed (u.enqueue body age) rest
      { standing := standing, frames := [{ body := body, age := age, flying := false }] } := by
  rw [u.enqueue_room body age notPace places]
  exact State.pulsed_of_still [] _ false (by rw [← stands]) (Port.posted_nil _).symm rfl rfl rfl

theorem State.pulsed_startStrobe (stands : u.zone.queue = standing ++ rest) :
    u.Pulsed u.startStrobe rest { standing := standing, cut := true } :=
  State.pulsed_of_still [] [] true (by rw [← stands]; rfl) (Port.posted_nil _).symm (by simp [State.startStrobe]) rfl rfl

/-- Contributions formed afresh behind a change of zone and port. -/
theorem State.pulsed_formContributions (u : State) (zone : Zone) (acts : List Action) (overdue removed : Bool)
    (k : LineMask) (operating : u.startup.station.operating = true)
    (concerned : Examined.lines { overdueHead := overdue, removed := removed } = k) (some : k ≠ 0#8)
    (stands : zone = { u.zone with queue := standing ++ rest, overdueFlag := u.zone.overdueFlag || overdue }) :
    u.Pulsed (State.formContributions { u with zone := zone, port := u.port.posted acts } k) rest
      { standing := standing, actions := acts, overdueHead := overdue, removed := removed } := by
  have only := State.formContributions_onlyLines { u with zone := zone, port := u.port.posted acts } k
  have formed := State.formContributions_linesFormed { u with zone := zone, port := u.port.posted acts } k operating
  generalize State.formContributions _ k = v at only formed
  rw [State.onlyLines_iff] at only
  obtain ⟨now, pins, startup, travel, sensing, zone', handoff, slip, entry, hostTrip, signals, strobe, mill, port,
    pending⟩ := only
  exact
    { zone := zone'.trans stands
      port := port
      mill := by rw [List.append_nil]; exact mill
      formed := by
        have same :
            Examined.lines { standing := standing, actions := acts, overdueHead := overdue, removed := removed } = k :=
          concerned
        rw [same]
        exact formed.of_eq rfl rfl rfl rfl rfl rfl
      still := by
        rintro rfl rfl
        exact absurd (concerned.symm.trans rfl) some
      strobe := strobe
      frame := by
        cases v
        simp only at now pins startup travel sensing handoff slip entry pending
        simp only [now, pins, startup, travel, sensing, handoff, slip, entry, pending] }

/-- The overdue/zone-full flag and TRIP (R10). -/
theorem State.pulsed_setOverdueFlag (stands : u.zone.queue = standing ++ rest)
    (operating : u.startup.station.operating = true) :
    u.Pulsed u.setOverdueFlag rest { standing := standing, overdueHead := true } := by
  have formed :=
    u.pulsed_formContributions (standing := standing) (rest := rest) { u.zone with overdueFlag := true } [] true false
      tripLine operating rfl (by decide) (by rw [← stands, Bool.or_true])
  rw [Port.posted_nil] at formed
  exact formed

/-- A removal with room for its actions (R9, R11). -/
theorem State.pulsed_remove (u : State) (ahead : List FeatureRecord) (own : Action)
    (operating : u.startup.station.operating = true) (room : u.port.actions.length + ahead.length + 1 ≤ 16) :
    u.Pulsed (u.remove ahead .implied own rest) rest
      { standing := [], actions := ahead.map (handedAction u.travel.z .implied false) ++ [own], removed := true } := by
  have posted :
      ((u.postAll (ahead.map (handedAction u.travel.z .implied false))).post own).withZone rest
        = { u with
            zone := { u.zone with queue := rest }
            port := u.port.posted (ahead.map (handedAction u.travel.z .implied false) ++ [own]) } := by
    rw [u.postAll_room _ (by rw [List.length_map]; omega), State.post_room _ _ (by simp [Port.posted]; omega),
      ← Port.posted_posted]
    rfl
  unfold State.remove
  rw [posted]
  exact
    u.pulsed_formContributions { u.zone with queue := rest } _ false true threadLine operating rfl (by decide)
      (by rw [Bool.or_false]; rfl)

end

end Sys2Proof.Machine
end


section
/-!
The examination of one record and of a zone (R8), and what a counted pulse leaves.
-/

namespace Sys2Proof.Machine

variable {b u v : State} {r : FeatureRecord} {ahead rest : List FeatureRecord}

/-! ### Actions and frames in the words of the examination -/

theorem tagByte_eq (tag : Option SetTag) : tagByte tag = tagCode tag := by cases tag <;> rfl

theorem kindByte_eq (kind : FeatureKind) : kindByte kind = kind.code := by cases kind <;> rfl

theorem handedAction_implied (z : TravelWord) : handedAction z .implied false = handed z 2#2 false := by
  funext r
  unfold handedAction handed millimetres saturate16
  rw [min_comm]
  rfl

/-- The report of a JOIN that leaves at a pulse, with its overrun (R87, R114). -/
def joinReport (th : Thresholds) (position : Nat) (r : FeatureRecord) (kind : ActionKind) (up : Bool) : Action :=
  { kind := kind, serial := r.serial, feature := 3#8, tag := tagByte r.tag, upEstimated := up,
    value := BitVec.ofNat 16 (min 65535 ((position - th.endOfZone) / 1024000)) }

theorem saturate16_overrun (th : Thresholds) (position : Nat) :
    saturate16 (overrunMm th position) = BitVec.ofNat 16 (min 65535 ((position - th.endOfZone) / 1024000)) := by
  have most : min (overrunMm th position) 65535 = overrunMm th position := min_eq_left (min_le_left _ _)
  unfold saturate16
  rw [most]
  rfl

theorem lapsedAction_eq (th : Thresholds) (position : Nat) (r : FeatureRecord) :
    lapsedAction th position r = joinReport th position r .lapsed false := by
  unfold lapsedAction joinReport
  rw [saturate16_overrun, tagByte_eq]
  rfl

theorem cutAction_eq (th : Thresholds) (position : Nat) (r : FeatureRecord) :
    cutAction th position r = joinReport th position r .cut (r.origin == .lapsed) := by
  unfold cutAction joinReport
  rw [saturate16_overrun, tagByte_eq]
  rfl

theorem State.overdueCause_eq (s : State) : s.overdueCause = s.causeOfOverdue := by
  simp [State.overdueCause, State.causeOfOverdue, State.keepsDown]

theorem State.overdueAction_eq (s : State) (r : FeatureRecord) :
    s.overdueAction r
      = { kind := .overdue, serial := r.serial, feature := kindByte r.kind, tag := tagByte r.tag,
          value := s.causeOfOverdue } := by
  unfold State.overdueAction
  rw [s.overdueCause_eq, tagByte_eq, kindByte_eq]

/-! ### The examination of one record, case by case -/

/-- A record has come to the end of the zone at a pulse (R8). -/
abbrev State.reaches (s : State) (z : TravelWord) (r : FeatureRecord) : Prop :=
  r.state = .travelling ∧ s.zone.thresholds.endOfZone ≤ r.position z

/-- A JOIN has come to the late threshold at a pulse (R8, R87). -/
abbrev State.lapses (s : State) (z : TravelWord) (r : FeatureRecord) : Prop :=
  (s.reaches z r ∨ r.state = .passed) ∧ s.zone.thresholds.late ≤ r.position z

/-- A HEAD or TAIL becomes OVERDUE at a pulse (R8, R90). -/
abbrev State.goesOverdue (s : State) (z : TravelWord) (r : FeatureRecord) : Prop :=
  (r.state = .due ∨ s.reaches z r) ∧ s.zone.thresholds.late ≤ r.position z

/-- The PASS of a JOIN that comes to the end of the zone (R83). -/
def State.passFrames (s : State) (z : TravelWord) (now : Nat) (r : FeatureRecord) : List QueuedFrame :=
  if s.reaches z r then
    [{ body := .pass r.serial r.tag (r.origin == .lapsed), age := some { base := 0, since := now }, flying := false }]
  else []

/-- The LAPSE of a JOIN (R87). -/
def State.lapseFrame (s : State) (z : TravelWord) (now : Nat) (r : FeatureRecord) : QueuedFrame where
  body := .lapse r.serial r.tag (r.origin == .lapsed) (min 65535 ((r.position z - s.zone.thresholds.endOfZone) / 1024000))
  age := some { base := 0, since := now }
  flying := false

/-- Examining a record after others is examining it by itself and putting what that gathers behind. -/
theorem State.examine_andThen (s : State) (z : TravelWord) (now : Nat) (x : Examined) (r : FeatureRecord) :
    s.examine z now x r = x.andThen (s.examine z now { standing := x.standing } r) := by
  unfold State.examine Examined.andThen
  dsimp only
  split_ifs <;> simp

section

variable (s : State) (z : TravelWord) (now : Nat)

theorem State.examine_cut (join : r.kind = .join) (last : s.startup.straps.last = true) (reaches : s.reaches z r) :
    s.examine z now { standing := ahead } r
      = { actions :=
            ahead.map (handed z 2#2 false)
              ++ [joinReport s.zone.thresholds (r.position z) r .cut (r.origin == .lapsed)]
          removed := true, cut := true } := by
  unfold State.examine
  simp only [if_pos join, if_pos last, if_pos reaches]
  rfl

theorem State.examine_waits (join : r.kind = .join) (last : s.startup.straps.last = true) (short : ¬ s.reaches z r) :
    s.examine z now { standing := ahead } r = { standing := ahead ++ [r] } := by
  unfold State.examine
  simp only [if_pos join, if_pos last, if_neg short]

theorem State.examine_lapse (join : r.kind = .join) (last : ¬ s.startup.straps.last = true) (lapses : s.lapses z r) :
    s.examine z now { standing := ahead } r
      = { actions :=
            ahead.map (handed z 2#2 false) ++ [joinReport s.zone.thresholds (r.position z) r .lapsed false]
          frames := s.passFrames z now r ++ [s.lapseFrame z now r], removed := true } := by
  unfold State.examine
  simp only [if_pos join, if_neg last, if_pos lapses]
  rfl

theorem State.examine_pass (join : r.kind = .join) (last : ¬ s.startup.straps.last = true) (short : ¬ s.lapses z r) :
    s.examine z now { standing := ahead } r
      = { standing := ahead ++ [{ r with state := if s.reaches z r then .passed else r.state }]
          frames := s.passFrames z now r } := by
  unfold State.examine
  simp only [if_pos join, if_neg last, if_neg short]
  rfl

theorem State.examine_overdue (feature : ¬ r.kind = .join) (late : s.goesOverdue z r) :
    s.examine z now { standing := ahead } r
      = { standing := ahead ++ [{ r with state := .overdue, learnable := false }]
          actions := [s.overdueAction r], overdueHead := r.kind == .head } := by
  unfold State.examine
  simp only [if_neg feature, if_pos late, s.overdueAction_eq]
  rfl

theorem State.examine_feature (feature : ¬ r.kind = .join) (early : ¬ s.goesOverdue z r) :
    s.examine z now { standing := ahead } r
      = { standing := ahead ++ [{ r with state := if s.reaches z r then .due else r.state }] } := by
  unfold State.examine
  simp only [if_neg feature, if_neg early]

end

/-- A HEAD or TAIL compared, in the words of the examination (R8, R90). -/
theorem State.compareFeature_eq (s : State) (z : TravelWord) (r : FeatureRecord) :
    compareFeature s.zone.thresholds (r.position z) r
        = (if s.goesOverdue z r then { r with state := .overdue, learnable := false }
           else { r with state := if s.reaches z r then .due else r.state })
      ∧ ((compareFeature s.zone.thresholds (r.position z) r).state = .overdue ∧ r.state ≠ .overdue
        ↔ s.goesOverdue z r) := by
  unfold compareFeature State.goesOverdue State.reaches
  generalize r.position z = p
  obtain ⟨serial, kind, tag, anon, entryW, entryZ, origin, state, learnable⟩ := r
  by_cases due : s.zone.thresholds.endOfZone ≤ p <;> by_cases late : s.zone.thresholds.late ≤ p <;>
    cases state <;> simp [due, late]

/-! ### One comparison -/

/-- A JOIN that comes to the end of the zone queues its PASS (R83). -/
theorem State.pulsed_pass (stands : u.zone.queue = ahead ++ r :: rest)
    (places : (u.passFrames u.travel.z u.now r).length = 0
      ∨ u.mill.queue.length + (u.passFrames u.travel.z u.now r).length ≤ 8) :
    u.Pulsed (if u.reaches u.travel.z r then u.passJoin r else u) (r :: rest)
      { standing := ahead, frames := u.passFrames u.travel.z u.now r } := by
  unfold State.passFrames at places ⊢
  split_ifs at places ⊢
  · exact State.pulsed_enqueue stands _ _ rfl (places.resolve_left (by simp))
  · exact State.pulsed_refl stands

theorem State.pulsed_cut (u : State) (operating : u.startup.station.operating = true)
    (join : r.kind = .join) (last : u.startup.straps.last = true) (reaches : u.reaches u.travel.z r)
    (room : u.port.actions.length + ahead.length + 1 ≤ 16) :
    u.Pulsed (u.cutJoin ahead r rest) rest (u.examine u.travel.z u.now { standing := ahead } r) := by
  rw [u.examine_cut _ _ join last reaches]
  unfold State.cutJoin
  have removed :=
    u.pulsed_remove (rest := rest) ahead (cutAction u.zone.thresholds (r.position u.travel.z) r) operating room
  rw [handedAction_implied, cutAction_eq] at removed
  rw [cutAction_eq]
  have whole := removed.andThen (State.pulsed_startStrobe (by rw [removed.zone])) (fun _ => rfl)
  simpa [Examined.andThen] using whole

theorem State.pulsed_lapse (operating : u.startup.station.operating = true) (stands : u.zone.queue = ahead ++ r :: rest)
    (join : r.kind = .join) (last : ¬ u.startup.straps.last = true) (lapses : u.lapses u.travel.z r)
    (room : u.port.actions.length + ahead.length + 1 ≤ 16)
    (places : u.mill.queue.length + (u.passFrames u.travel.z u.now r).length + 1 ≤ 8) :
    u.Pulsed ((if u.reaches u.travel.z r then u.passJoin r else u).lapseJoin ahead r rest) rest
      (u.examine u.travel.z u.now { standing := ahead } r) := by
  rw [u.examine_lapse _ _ join last lapses]
  have passed := u.pulsed_pass stands (.inr (Nat.le_of_succ_le places))
  obtain ⟨now, pins, startup, travel, handoff⟩ := passed.frames
  have port := passed.port
  have queue := congrArg MillLine.queue passed.mill
  have thresholds := congrArg Zone.thresholds passed.zone
  generalize (if u.reaches u.travel.z r then u.passJoin r else u) = t at *
  rw [Port.posted_nil] at port
  have removed :=
    t.pulsed_remove (rest := rest) ahead (lapsedAction t.zone.thresholds (r.position t.travel.z) r)
      (by rw [startup]; exact operating) (by rw [port]; exact room)
  unfold State.lapseJoin
  dsimp only
  have queue' := congrArg MillLine.queue removed.mill
  have lapsed :=
    State.pulsed_enqueue (u := t.remove ahead .implied (lapsedAction t.zone.thresholds (r.position t.travel.z) r) rest)
      (by rw [removed.zone])
      (.lapse r.serial r.tag (r.origin == .lapsed) (overrunMm t.zone.thresholds (r.position t.travel.z)))
      (some t.ageFromNow) rfl (by rw [queue']; simp only [queue, List.append_nil, List.length_append]; omega)
  have whole := passed.andThen (removed.andThen lapsed (fun _ => by rw [lapsed.zone, removed.zone]))
    (fun h => absurd h (by simp))
  have frame :
      { body := .lapse r.serial r.tag (r.origin == .lapsed) (overrunMm u.zone.thresholds (r.position u.travel.z)),
        age := some t.ageFromNow, flying := false }
      = u.lapseFrame u.travel.z u.now r := by
    unfold State.lapseFrame State.ageFromNow
    rw [now]
    rfl
  rw [handedAction_implied, lapsedAction_eq, travel, thresholds, frame] at whole
  rw [lapsedAction_eq, travel, thresholds]
  simpa [Examined.andThen] using whole

theorem State.pulsed_passed (stands : u.zone.queue = ahead ++ r :: rest)
    (join : r.kind = .join) (last : ¬ u.startup.straps.last = true) (short : ¬ u.lapses u.travel.z r)
    (places : (u.passFrames u.travel.z u.now r).length = 0
      ∨ u.mill.queue.length + (u.passFrames u.travel.z u.now r).length ≤ 8) :
    u.Pulsed
      ((if u.reaches u.travel.z r then u.passJoin r else u).withZone
        (ahead ++ { r with state := if u.reaches u.travel.z r then .passed else r.state } :: rest))
      rest (u.examine u.travel.z u.now { standing := ahead } r) := by
  rw [u.examine_pass _ _ join last short]
  have passed := u.pulsed_pass stands places
  have written :=
    State.pulsed_withZone (if u.reaches u.travel.z r then u.passJoin r else u) (rest := rest)
      (standing := ahead ++ [{ r with state := if u.reaches u.travel.z r then .passed else r.state }])
  have whole := passed.andThen written (fun h => absurd h (by simp))
  simpa [Examined.andThen] using whole

theorem State.pulsed_overdue (operating : u.startup.station.operating = true) (feature : ¬ r.kind = .join)
    (late : u.goesOverdue u.travel.z r) (room : u.port.actions.length < 16) :
    u.Pulsed (u.compareHeadOrTail ahead r rest) rest (u.examine u.travel.z u.now { standing := ahead } r) := by
  rw [u.examine_overdue _ _ feature late]
  obtain ⟨becomes, goes⟩ := u.compareFeature_eq u.travel.z r
  unfold State.compareHeadOrTail
  dsimp only
  rw [if_pos (goes.mpr late), becomes, if_pos late]
  generalize { r with state := FeatureState.overdue, learnable := false } = q
  have written := u.pulsed_withZone (rest := rest) (standing := ahead ++ [q])
  rw [show ahead ++ q :: rest = ahead ++ [q] ++ rest by simp]
  have startup := written.frames.2.2.1
  generalize u.withZone (ahead ++ [q] ++ rest) = w at *
  have stands : w.zone.queue = ahead ++ [q] ++ rest := by rw [written.zone]
  have posted := State.pulsed_post stands (u.overdueAction r) (by rw [written.port, Port.posted_nil]; exact room)
  have both := written.andThen posted (fun h => absurd h (by simp))
  split_ifs with head
  · have flagged :=
      State.pulsed_setOverdueFlag (u := w.post (u.overdueAction r)) stands (by
        rw [posted.frames.2.2.1, startup]
        exact operating)
    have whole := both.andThen flagged (fun h => absurd h (by simp [Examined.andThen]))
    simpa [Examined.andThen, head] using whole
  · have tail : (r.kind == .head) = false := by simpa using head
    simpa [Examined.andThen, tail] using both

theorem State.pulsed_feature (feature : ¬ r.kind = .join) (early : ¬ u.goesOverdue u.travel.z r) :
    u.Pulsed (u.compareHeadOrTail ahead r rest) rest (u.examine u.travel.z u.now { standing := ahead } r) := by
  rw [u.examine_feature _ _ feature early]
  obtain ⟨becomes, goes⟩ := u.compareFeature_eq u.travel.z r
  unfold State.compareHeadOrTail
  dsimp only
  rw [if_neg (fun h => early (goes.mp h)), becomes, if_neg early,
    show ∀ q, ahead ++ q :: rest = ahead ++ [q] ++ rest by simp]
  exact u.pulsed_withZone

/-! ### The comparison of a record is its examination -/

/-- An examination keeps the untaken HEADs, but for those that a removal takes out (R11). -/
theorem State.examine_heads (s : State) (z : TravelWord) (now : Nat) (ahead rest : List FeatureRecord) (r : FeatureRecord) :
    let y := s.examine z now { standing := ahead } r
    (y.removed = false →
        (ahead ++ r :: rest).any FeatureRecord.untakenHead = (y.standing ++ rest).any FeatureRecord.untakenHead)
      ∧ ((y.standing ++ rest).any FeatureRecord.untakenHead = true →
          (ahead ++ r :: rest).any FeatureRecord.untakenHead = true) := by
  intro y
  have stays (q : FeatureRecord) (same : r.untakenHead = q.untakenHead) (h : y.standing = ahead ++ [q]) :
      (ahead ++ r :: rest).any FeatureRecord.untakenHead = (y.standing ++ rest).any FeatureRecord.untakenHead := by
    simp [h, same]
  by_cases removed : y.removed = true
  · have none : y.standing = [] := by
      revert removed
      simp only [y]
      unfold State.examine
      dsimp only
      split_ifs <;> simp
    rw [none, removed]
    refine ⟨fun h => absurd h (by simp), fun h => ?_⟩
    rw [List.any_append, List.any_cons]
    simp [show rest.any FeatureRecord.untakenHead = true from h]
  · have one : ∃ q, r.untakenHead = q.untakenHead ∧ y.standing = ahead ++ [q] := by
      by_cases join : r.kind = .join
      · have noHead (q : FeatureRecord) (k : q.kind = .join) : q.untakenHead = false := by
          simp [FeatureRecord.untakenHead, k]
        by_cases last : s.startup.straps.last = true
        · by_cases reaches : s.reaches z r
          · exact absurd (by simp only [y, s.examine_cut z now join last reaches]) removed
          · exact ⟨r, rfl, by simp only [y, s.examine_waits z now join last reaches]⟩
        · by_cases lapses : s.lapses z r
          · exact absurd (by simp only [y, s.examine_lapse z now join last lapses]) removed
          · refine ⟨_, ?_, congrArg Examined.standing (s.examine_pass z now join last lapses)⟩
            rw [noHead r join, noHead _ (by exact join)]
      · by_cases late : s.goesOverdue z r
        · refine ⟨_, ?_, congrArg Examined.standing (s.examine_overdue z now join late)⟩
          unfold FeatureRecord.untakenHead
          obtain due | ⟨travelling, -⟩ := late.1
          · rw [due]
            rfl
          · rw [travelling]
            rfl
        · refine ⟨_, ?_, congrArg Examined.standing (s.examine_feature z now join late)⟩
          by_cases reaches : s.reaches z r
          · unfold FeatureRecord.untakenHead
            rw [if_pos reaches, reaches.1]
            rfl
          · rw [if_neg reaches]
    obtain ⟨q, same, h⟩ := one
    have kept := stays q same h
    exact ⟨fun _ => kept, fun h => kept.trans h⟩

/-- One step of the comparisons does what the examination of its record gathers. -/
theorem State.compareZone_cons (operating : u.startup.station.operating = true) (stands : u.zone.queue = ahead ++ r :: rest)
    (places : (u.examine u.travel.z u.now { standing := ahead } r).frames.length = 0
      ∨ u.mill.queue.length + (u.examine u.travel.z u.now { standing := ahead } r).frames.length ≤ 8)
    (room :
      u.port.actions.length + (u.examine u.travel.z u.now { standing := ahead } r).actions.length ≤ 16) :
    ∃ v, u.compareZone ahead (r :: rest)
          = v.compareZone (u.examine u.travel.z u.now { standing := ahead } r).standing rest
        ∧ u.Pulsed v rest (u.examine u.travel.z u.now { standing := ahead } r) := by
  rw [State.compareZone]
  by_cases join : r.kind = .join
  · rw [if_pos join]
    by_cases last : u.startup.straps.last = true
    · rw [if_pos last]
      by_cases reaches : u.reaches u.travel.z r
      · rw [if_pos reaches]
        have gathered := u.pulsed_cut (ahead := ahead) (rest := rest) operating join last reaches (by
          simp only [u.examine_cut _ _ join last reaches, List.length_append, List.length_map, List.length_singleton] at room
          omega)
        refine ⟨_, ?_, gathered⟩
        rw [u.examine_cut _ _ join last reaches]
      · rw [if_neg reaches]
        refine ⟨u, ?_⟩
        rw [u.examine_waits _ _ join last reaches]
        exact ⟨rfl, State.pulsed_refl (by simpa using stands)⟩
    · rw [if_neg last]
      by_cases lapses : u.lapses u.travel.z r
      · rw [if_pos lapses]
        have gathered := State.pulsed_lapse operating stands join last lapses
          (by
            simp only [u.examine_lapse _ _ join last lapses, List.length_append, List.length_map, List.length_singleton]
              at room
            omega)
          (by
            simp only [u.examine_lapse _ _ join last lapses, List.length_append, List.length_singleton] at places
            omega)
        refine ⟨_, ?_, gathered⟩
        rw [u.examine_lapse _ _ join last lapses]
      · rw [if_neg lapses]
        have gathered := State.pulsed_passed stands join last lapses
          (by simpa only [u.examine_pass _ _ join last lapses] using places)
        refine ⟨_, ?_, gathered⟩
        rw [u.examine_pass _ _ join last lapses]
        have record : (if u.reaches u.travel.z r then { r with state := .passed } else r)
            = { r with state := if u.reaches u.travel.z r then .passed else r.state } := by split_ifs <;> rfl
        rw [record]
  · rw [if_neg join]
    obtain ⟨becomes, -⟩ := u.compareFeature_eq u.travel.z r
    refine ⟨u.compareHeadOrTail ahead r rest, ?_, ?_⟩
    · rw [becomes]
      by_cases late : u.goesOverdue u.travel.z r
      · rw [if_pos late, u.examine_overdue _ _ join late]
      · rw [if_neg late, u.examine_feature _ _ join late]
    · by_cases late : u.goesOverdue u.travel.z r
      · exact State.pulsed_overdue operating join late (by
          simpa [u.examine_overdue _ _ join late] using room)
      · exact State.pulsed_feature join late

end Sys2Proof.Machine
end


section
/-!
The examination of a zone, and what a counted pulse leaves (R8, R30).
-/

namespace Sys2Proof.Machine

variable {b s u v : State} {rest : List FeatureRecord} {x : Examined}

/-! ### The examination of a zone -/

/-- What an examination looks at. -/
theorem State.examine_congr (thresholds : u.zone.thresholds = b.zone.thresholds) (startup : u.startup = b.startup)
    (handoff : u.handoff = b.handoff) : u.examine = b.examine := by
  funext z now x r
  unfold State.examine State.causeOfOverdue
  rw [thresholds, startup, handoff]

/-- The record is a JOIN that a pulse takes out. -/
def State.takesOut (s : State) (z : TravelWord) (now : Nat) (r : FeatureRecord) : Bool := (s.examine z now {} r).removed

theorem State.examine_removed (s : State) (z : TravelWord) (now : Nat) (ahead : List FeatureRecord) (r : FeatureRecord) :
    (s.examine z now { standing := ahead } r).removed = s.takesOut z now r := by
  unfold State.takesOut State.examine
  dsimp only
  split_ifs <;> rfl

theorem Examined.andThen_length (x y : Examined) :
    (x.andThen y).frames.length = x.frames.length + y.frames.length
      ∧ (x.andThen y).actions.length = x.actions.length + y.actions.length :=
  ⟨List.length_append, List.length_append⟩

/-- What has been gathered stays gathered. -/
theorem State.examine_grows (s : State) (z : TravelWord) (now : Nat) (rest : List FeatureRecord) (x : Examined) :
    x.frames.length ≤ (rest.foldl (s.examine z now) x).frames.length
      ∧ x.actions.length ≤ (rest.foldl (s.examine z now) x).actions.length := by
  induction rest generalizing x with
  | nil => exact ⟨le_rfl, le_rfl⟩
  | cons r rest ih =>
    obtain ⟨frames, actions⟩ := ih (s.examine z now x r)
    rw [s.examine_andThen] at frames actions
    rw [List.foldl_cons, s.examine_andThen]
    rw [(Examined.andThen_length _ _).1] at frames
    rw [(Examined.andThen_length _ _).2] at actions
    exact ⟨by omega, by omega⟩

/-- The comparisons of a zone do what the examination of its records gathers. THREAD is formed afresh once, or its contribution
is what its source says when the pulse comes, so that it falls once at most. -/
theorem State.compareZone_pulsed (b : State) (operating : b.startup.station.operating = true)
    (places : (rest.foldl (b.examine b.travel.z b.now) x).frames.length = 0
      ∨ b.mill.queue.length + (rest.foldl (b.examine b.travel.z b.now) x).frames.length ≤ 8)
    (room : b.port.actions.length + (rest.foldl (b.examine b.travel.z b.now) x).actions.length ≤ 16)
    (gathered : b.Pulsed u rest x) (falls : u.sources.getLsbD 1 = true → b.sources.getLsbD 1 = true)
    (thread : b.contributions.getLsbD 1 = b.sources.getLsbD 1
      ∨ rest.countP (b.takesOut b.travel.z b.now) + (if x.removed then 1 else 0) ≤ 1) :
    b.Pulsed (u.compareZone x.standing rest) [] (rest.foldl (b.examine b.travel.z b.now) x) := by
  induction rest generalizing u x with
  | nil => exact gathered
  | cons r rest ih =>
    obtain ⟨now, pins, startup, travel, handoff⟩ := gathered.frames
    have examines : u.examine = b.examine :=
      State.examine_congr (by rw [gathered.zone]) startup handoff
    have stands : u.zone.queue = x.standing ++ r :: rest := by rw [gathered.zone]
    rw [List.foldl_cons, b.examine_andThen] at places room ⊢
    obtain ⟨frames, actions⟩ :=
      b.examine_grows b.travel.z b.now rest (x.andThen (b.examine b.travel.z b.now { standing := x.standing } r))
    rw [(Examined.andThen_length _ _).1] at frames
    rw [(Examined.andThen_length _ _).2] at actions
    have queue := congrArg (fun m => m.queue.length) gathered.mill
    have posted := congrArg (fun p => p.actions.length) gathered.port
    simp only [Port.posted, List.length_append] at queue posted
    obtain ⟨v, compares, step⟩ :=
      State.compareZone_cons (u := u) (rest := rest) (ahead := x.standing) (r := r) (by rw [startup]; exact operating) stands
        (by
          rw [examines, travel, now, queue]
          exact places.imp (fun none => by omega) (fun some => by omega))
        (by rw [examines, travel, now, posted]; omega)
    obtain ⟨kept, taken⟩ := b.examine_heads b.travel.z b.now x.standing rest r
    have removes := b.examine_removed b.travel.z b.now x.standing r
    rw [examines, travel, now] at compares step
    rw [compares]
    generalize b.examine b.travel.z b.now { standing := x.standing } r = y at *
    have heads : v.zone.queue = y.standing ++ rest := by rw [step.zone]
    obtain ⟨same, less⟩ := step.threadSource
    rw [stands, heads] at same less
    have follows : x.removed = true → u.sources.getLsbD 1 = v.sources.getLsbD 1
        ∨ (y.removed = true ∧ u.sources.getLsbD 1 = b.contributions.getLsbD 1) := by
      intro again
      by_cases removed : y.removed = true
      · cases before : u.sources.getLsbD 1
        · left
          cases after : v.sources.getLsbD 1
          · rfl
          · exact before.symm.trans (less taken after)
        · right
          refine ⟨removed, ?_⟩
          obtain agree | once := thread
          · rw [agree, falls before]
          · rw [removes] at removed
            rw [List.countP_cons, if_pos removed, if_pos again] at once
            omega
      · exact .inl (same (kept (by simpa using removed))).symm
    refine ih places room (gathered.trans step follows) (fun some => falls (less taken some)) ?_
    refine thread.imp id fun once => ?_
    rw [List.countP_cons, ← removes] at once
    unfold Examined.andThen
    dsimp only
    cases hx : x.removed <;> cases hy : y.removed <;> simp [hx, hy] at once ⊢ <;> omega

end Sys2Proof.Machine
end


section
/-!
A counted pulse in the words of the examination (R8, R22, R30).
-/

namespace Sys2Proof.Machine

variable {b s u : State} {x : Examined}

/-! ### The pulse -/

/-- The state in which the zone tracker takes its part of a counted pulse (R22 to R25). -/
def State.pulsing (s : State) (dt : Nat) : State :=
  { s with now := s.now + dt, travel := s.travel.pulse s.startup.config.pitch s.slip.code (s.now + dt) }

theorem exec_encoderPulse (dt : Nat) (s : State) (tracking : s.startup.station = .tracking) :
    exec (.encoderPulse dt) s = .next (s.pulsing dt).zonePulse := by
  show Host.Outcome.next _ = _
  rw [if_pos (by exact tracking)]
  rfl

/-- The strip travel of a counted pulse (R23, R24). -/
theorem State.pulsing_z (s : State) (dt : Nat) :
    (s.pulsing dt).travel.z
      = BitVec.ofNat 48 (s.travel.z.toNat + (s.startup.config.pitch * (65536 + s.slip.code) + s.travel.r) / 65536) := by
  unfold State.pulsing TravelCounter.pulse pulseProduct
  rw [BitVec.ofNat_add, BitVec.ofNat_toNat, BitVec.setWidth_eq]

/-- A record held at the ceiling (R30). -/
theorem holdAtCeiling_eq (z : TravelWord) (r : FeatureRecord) :
    holdAtCeiling z r
      = { r with entryZ := if 2 ^ 47 < r.position z then z - BitVec.ofNat 48 (2 ^ 47) else r.entryZ } := by
  by_cases beyond : 2 ^ 47 < r.position z
  · rw [if_pos beyond]
    exact if_pos beyond
  · rw [if_neg beyond]
    exact if_neg beyond

/-- Whether anything is formed or gathered does not depend on where a record is held. -/
theorem untakenHead_holdAtCeiling (z : TravelWord) (l : List FeatureRecord) :
    (l.map (holdAtCeiling z)).any FeatureRecord.untakenHead = l.any FeatureRecord.untakenHead := by
  rw [List.any_map]
  congr 1
  funext r
  rw [Function.comp, holdAtCeiling_eq]
  rfl

/-- A counted pulse leaves what the examination of the records has gathered, with the records held at the ceiling. -/
theorem State.zonePulse_gathers (b : State) (operating : b.startup.station.operating = true)
    (examined : b.zone.queue.foldl (b.examine b.travel.z b.now) {} = x)
    (places : x.frames.length = 0 ∨ b.mill.queue.length + x.frames.length ≤ 8)
    (room : b.port.actions.length + x.actions.length ≤ 16)
    (thread : b.contributions.getLsbD 1 = b.sources.getLsbD 1
      ∨ b.zone.queue.countP (b.takesOut b.travel.z b.now) ≤ 1) :
    b.Pulsed b.zonePulse [] { x with standing := x.standing.map (holdAtCeiling b.travel.z) } := by
  subst examined
  have compared :=
    b.compareZone_pulsed (u := b) (rest := b.zone.queue) (x := {}) operating places room (State.pulsed_refl rfl) id thread
  have travel := compared.frames.2.2.2.1
  unfold State.zonePulse
  dsimp only
  generalize b.zone.queue.foldl (b.examine b.travel.z b.now) {} = x at *
  generalize b.compareZone _ b.zone.queue = t at *
  rw [travel]
  have held := t.pulsed_withZone (standing := t.zone.queue.map (holdAtCeiling b.travel.z)) (rest := [])
  rw [List.append_nil] at held
  have whole := compared.andThen held fun _ => (untakenHead_holdAtCeiling _ _).symm
  have queue : t.zone.queue = x.standing := by rw [compared.zone, List.append_nil]
  simpa [Examined.andThen, queue] using whole

/-- What is said of the state in which the zone tracker takes its part holds of the state before the pulse. -/
theorem State.Pulsed.of_pulsing {dt : Nat} {t : State} (h : (s.pulsing dt).Pulsed t [] x) :
    t.zone = { s.zone with queue := x.standing, overdueFlag := s.zone.overdueFlag || x.overdueHead }
      ∧ t.port = s.port.posted x.actions
      ∧ t.mill = { s.mill with queue := s.mill.queue ++ x.frames, slots := t.mill.slots }
      ∧ s.linesFormed t x.lines
      ∧ (x.overdueHead = false → x.removed = false → t.lines = s.lines ∧ t.mill.slots = s.mill.slots)
      ∧ t.strobe = (if x.cut then some (s.now + dt + s.startup.config.strobeWidth) else s.strobe)
      ∧ t.travel.z = (s.pulsing dt).travel.z := by
  have zone := h.zone
  rw [List.append_nil] at zone
  exact ⟨zone, h.port, h.mill, h.formed.of_eq rfl rfl rfl rfl rfl rfl, h.still, h.strobe, congrArg _ h.frames.2.2.2.1⟩

/-- A counted pulse leaves what the examination of the records has gathered. -/
theorem State.encoderPulse_gathers (s : State) (dt : Nat) (tracking : s.startup.station = .tracking)
    (examined : s.zone.queue.foldl (s.examine (s.pulsing dt).travel.z (s.now + dt)) {} = x)
    (places : x.frames.length = 0 ∨ s.mill.queue.length + x.frames.length ≤ 8)
    (room : s.port.actions.length + x.actions.length ≤ 16)
    (thread : s.contributions.getLsbD 1 = s.sources.getLsbD 1
      ∨ s.zone.queue.countP (s.takesOut (s.pulsing dt).travel.z (s.now + dt)) ≤ 1) :
    (s.pulsing dt).Pulsed (s.pulsing dt).zonePulse []
      { x with standing := x.standing.map (holdAtCeiling (s.pulsing dt).travel.z) } := by
  have operating : (s.pulsing dt).startup.station.operating = true := by
    show s.startup.station.operating = true
    rw [tracking]
    rfl
  exact (s.pulsing dt).zonePulse_gathers operating examined places room thread

/-! ### O32 -/

/-- A record that a pulse passes by (R8). -/
def State.passesBy (s : State) (z : TravelWord) (r : FeatureRecord) : Prop :=
  ¬ s.reaches z r ∧ ¬ s.goesOverdue z r ∧ ¬ s.lapses z r

/-- Records that a pulse passes by stand as they stood. -/
theorem State.examine_passedBy (s : State) (z : TravelWord) (now : Nat) (l : List FeatureRecord) (x : Examined)
    (h : ∀ r ∈ l, s.passesBy z r) :
    l.foldl (s.examine z now) x = { x with standing := x.standing ++ l } ∧ l.countP (s.takesOut z now) = 0 := by
  have alone (ahead : List FeatureRecord) (r : FeatureRecord) (hr : s.passesBy z r) :
      s.examine z now { standing := ahead } r = { standing := ahead ++ [r] } := by
    obtain ⟨short, early, stays⟩ := hr
    have noPass : s.passFrames z now r = [] := if_neg short
    by_cases join : r.kind = .join
    · by_cases last : s.startup.straps.last = true
      · exact s.examine_waits z now join last short
      · rw [s.examine_pass z now join last stays, if_neg short, noPass]
    · rw [s.examine_feature z now join early, if_neg short]
  refine ⟨?_, ?_⟩
  · induction l generalizing x with
    | nil => simp
    | cons r l ih =>
      rw [List.foldl_cons, ih _ (fun q hq => h q (List.mem_cons_of_mem r hq)), s.examine_andThen,
        alone _ _ (h r List.mem_cons_self)]
      simp [Examined.andThen]
  · refine List.countP_eq_zero.mpr fun r hr => ?_
    rw [← s.examine_removed z now [] r, alone _ _ (h r hr)]
    exact Bool.false_ne_true

/-- After a removal without an overdue HEAD only THREAD is formed afresh (R11). -/
theorem Examined.lines_thread (head : x.overdueHead = false) (removed : x.removed = true) : x.lines = 2#8 := by
  unfold Examined.lines
  rw [head, removed]
  rfl

/-- One record examined between records that the pulse passes by. -/
theorem State.encoderPulse_one (s : State) (dt : Nat) (tracking : s.startup.station = .tracking)
    {ahead behind : List FeatureRecord} {r : FeatureRecord} {y : Examined} (queue : s.zone.queue = ahead ++ r :: behind)
    (others : ∀ q ∈ ahead ++ behind, s.passesBy (s.pulsing dt).travel.z q)
    (examined : s.examine (s.pulsing dt).travel.z (s.now + dt) { standing := ahead } r = y)
    (places : s.mill.queue.length + y.frames.length ≤ 8) (room : s.port.actions.length + y.actions.length ≤ 16)
    (below : ∀ q ∈ y.standing ++ behind, q.position (s.pulsing dt).travel.z ≤ 2 ^ 47) :
    (s.pulsing dt).Pulsed (s.pulsing dt).zonePulse [] { y with standing := y.standing ++ behind } := by
  have first := s.examine_passedBy (s.pulsing dt).travel.z (s.now + dt) ahead {}
    (fun q hq => others q (List.mem_append_left _ hq))
  have last := s.examine_passedBy (s.pulsing dt).travel.z (s.now + dt) behind y
    (fun q hq => others q (List.mem_append_right _ hq))
  have whole : s.zone.queue.foldl (s.examine (s.pulsing dt).travel.z (s.now + dt)) {}
      = { y with standing := y.standing ++ behind } := by
    rw [queue, List.foldl_append, List.foldl_cons, first.1, List.nil_append, examined, last.1]
  have once : s.zone.queue.countP (s.takesOut (s.pulsing dt).travel.z (s.now + dt)) ≤ 1 := by
    rw [queue, List.countP_append, List.countP_cons, first.2, last.2]
    split_ifs <;> omega
  have gathered := s.encoderPulse_gathers dt tracking whole (.inr places) room (.inr once)
  have held : (y.standing ++ behind).map (holdAtCeiling (s.pulsing dt).travel.z) = y.standing ++ behind :=
    (List.map_congr_left fun q hq => if_neg (not_lt.mpr (below q hq))).trans (List.map_id _)
  rw [held] at gathered
  exact gathered

/-- Settles O32: the first part is the examination of the zone; the second is the examination of one record, between records
that the pulse passes by. -/
theorem pulseMovesJoins : Obligations.PulseMovesJoins := by
  refine ⟨?_, ?_⟩
  · intro dt s tracking agree z x places room
    have gathered :=
      s.encoderPulse_gathers dt tracking (x := x) (by rw [s.pulsing_z]) (.inr places) room (.inl agree)
    obtain ⟨zone, port, mill, formed, -, strobe, -⟩ := gathered.of_pulsing
    refine ⟨_, exec_encoderPulse dt s tracking, ?_, port, mill, formed, strobe⟩
    rw [zone, s.pulsing_z, funext (holdAtCeiling_eq z)]
  · intro dt s ahead behind r tracking queue join places room z th p others within age overrun pass lapse report passes lapses
    have at_z : (s.pulsing dt).travel.z = z := s.pulsing_z dt
    have passed : ∀ q ∈ ahead ++ behind, s.passesBy z q := by
      intro q hq
      obtain ⟨-, short, early⟩ := others q hq
      have noReach : ¬ s.reaches z q := fun h => absurd h.2 (not_le.mpr (short h.1))
      refine ⟨noReach, ?_, ?_⟩
      · rintro ⟨due | reaches, late⟩
        · exact absurd late (not_le.mpr (early (.inl due)))
        · exact noReach reaches
      · rintro ⟨reaches | gone, late⟩
        · exact noReach reaches
        · exact absurd late (not_le.mpr (early (.inr gone)))
    have below (standing : List FeatureRecord) (h : ∀ q ∈ standing, q ∈ ahead ∨ q.position z = p) :
        ∀ q ∈ standing ++ behind, q.position z ≤ 2 ^ 47 := by
      intro q hq
      obtain hq | hq := List.mem_append.mp hq
      · obtain hq | same := h q hq
        · exact (others q (List.mem_append_left _ hq)).1
        · exact same.trans_le within
      · exact (others q (List.mem_append_right _ hq)).1
    have one {y : Examined} := s.encoderPulse_one dt tracking (y := y) queue (at_z ▸ passed)
    rw [at_z] at one
    have most : (s.passFrames z (s.now + dt) r).length ≤ 1 := by
      unfold State.passFrames
      split_ifs <;> simp
    have stands (state : FeatureState) : ∀ q ∈ ahead ++ [{ r with state := state }], q ∈ ahead ∨ q.position z = p := by
      intro q hq
      obtain hq | hq := List.mem_append.mp hq
      · exact .inl hq
      · obtain rfl := List.mem_singleton.mp hq
        exact .inr rfl
    refine ⟨_, exec_encoderPulse dt s tracking, ?_, ?_, ?_, ?_⟩
    · intro notLast reaches short
      have mid : ¬ s.startup.straps.last = true := by simp [notLast]
      have gathered := one (s.examine_pass z _ join mid short) (le_trans (Nat.add_le_add_left most _) (Nat.le_of_succ_le places))
        (by rw [List.length_nil]; omega) (below _ (stands _))
      obtain ⟨zone, port, mill, -, still, strobe, -⟩ := gathered.of_pulsing
      obtain ⟨lines, slots⟩ := still rfl rfl
      have frames : s.passFrames z (s.now + dt) r = [pass] := if_pos reaches
      rw [slots, frames] at mill
      refine ⟨?_, mill, port.trans (Port.posted_nil _), lines, strobe⟩
      rw [zone, if_pos (by exact reaches), Bool.or_false, List.append_assoc]
      rfl
    · intro notLast lapsing
      have mid : ¬ s.startup.straps.last = true := by simp [notLast]
      have gathered := one (s.examine_lapse z _ join mid lapsing)
        (by rw [List.length_append, List.length_singleton]; omega)
        (by rw [List.length_append, List.length_map, List.length_singleton]; omega) (below _ (by simp))
      obtain ⟨zone, port, mill, formed, -, strobe, -⟩ := gathered.of_pulsing
      have frames : s.passFrames z (s.now + dt) r ++ [s.lapseFrame z (s.now + dt) r]
          = if r.state = .passed then [lapse] else [pass, lapse] := by
        obtain reaches | gone := lapsing.1
        · rw [if_neg (by rw [reaches.1]; decide)]
          exact congrArg (· ++ [lapse]) (if_pos reaches)
        · rw [if_pos gone]
          exact congrArg (· ++ [lapse]) (if_neg (fun reaches => absurd (gone.symm.trans reaches.1) (by decide)))
      rw [frames] at mill
      have report' : joinReport s.zone.thresholds (r.position z) r .lapsed false = report .lapsed false := by
        unfold joinReport
        rw [tagByte_eq]
      rw [report'] at port
      rw [Examined.lines_thread rfl rfl] at formed
      refine ⟨?_, mill, port, formed, strobe⟩
      rw [zone, Bool.or_false]
      rfl
    · intro last reaches
      have gathered := one (s.examine_cut z _ join last reaches) (by rw [List.length_nil]; omega)
        (by rw [List.length_append, List.length_map, List.length_singleton]; omega) (below _ (by simp))
      obtain ⟨zone, port, mill, formed, -, strobe, -⟩ := gathered.of_pulsing
      have report' : joinReport s.zone.thresholds (r.position z) r .cut (r.origin == .lapsed)
          = report .cut (r.origin == .lapsed) := by
        unfold joinReport
        rw [tagByte_eq]
      rw [report'] at port
      rw [List.append_nil] at mill
      rw [Examined.lines_thread rfl rfl] at formed
      refine ⟨?_, mill, port, formed, strobe⟩
      rw [zone, Bool.or_false]
      rfl
    · intro short stays
      have waits : s.examine z (s.now + dt) { standing := ahead } r = { standing := ahead ++ [{ r with state := r.state }] } := by
        by_cases last : s.startup.straps.last = true
        · exact s.examine_waits z _ join last short
        · have noPass : s.passFrames z (s.now + dt) r = [] := if_neg short
          rw [s.examine_pass z _ join last (stays (by simpa using last)), if_neg (by exact short), noPass]
      have gathered := one waits (by rw [List.length_nil]; omega) (by rw [List.length_nil]; omega) (below _ (stands _))
      obtain ⟨zone, port, mill, -, still, strobe, -⟩ := gathered.of_pulsing
      obtain ⟨lines, slots⟩ := still rfl rfl
      rw [slots, List.append_nil] at mill
      refine ⟨?_, mill, port.trans (Port.posted_nil _), lines, strobe⟩
      rw [zone, Bool.or_false, List.append_assoc, List.singleton_append, ← queue]

/-! ### O31 -/

/-- A zone without a JOIN examined (R8, R90). -/
theorem State.examine_features (s : State) (z : TravelWord) (now : Nat) (l : List FeatureRecord) (x : Examined)
    (h : ∀ r ∈ l, r.kind ≠ .join) :
    l.foldl (s.examine z now) x
        = { x with
            standing :=
              x.standing
                ++ l.map (fun r =>
                  if s.goesOverdue z r then { r with state := .overdue, learnable := false }
                  else { r with state := if s.reaches z r then .due else r.state })
            actions := x.actions ++ (l.filter (fun r => s.goesOverdue z r)).map s.overdueAction
            overdueHead := x.overdueHead || (l.filter (fun r => s.goesOverdue z r)).any (fun r => r.kind == .head) }
      ∧ l.countP (s.takesOut z now) = 0 := by
  refine ⟨?_, ?_⟩
  · induction l generalizing x with
    | nil => simp
    | cons r l ih =>
      have feature := h r List.mem_cons_self
      rw [List.foldl_cons, ih _ (fun q hq => h q (List.mem_cons_of_mem r hq)), s.examine_andThen]
      by_cases late : s.goesOverdue z r
      · simp [s.examine_overdue z now feature late, Examined.andThen, late, Bool.or_assoc]
      · simp [s.examine_feature z now feature late, Examined.andThen, late]
  · refine List.countP_eq_zero.mpr fun r hr => ?_
    rw [← s.examine_removed z now [] r]
    by_cases late : s.goesOverdue z r
    · rw [s.examine_overdue z now (h r hr) late]
      exact Bool.false_ne_true
    · rw [s.examine_feature z now (h r hr) late]
      exact Bool.false_ne_true

/-- After overdue HEADs without a removal TRIP is formed afresh, and its source stands (R10). -/
theorem State.Pulsed.tripFollows {rest : List FeatureRecord} (h : b.Pulsed u rest x) (stays : x.removed = false) (n : Fin 8) :
    u.view n = if n = 0 ∧ x.overdueHead = true then (b.view n).formed true else b.view n := by
  have view := h.formed.1 n
  have concerned : x.lines.getLsbD n = true ↔ n = 0 ∧ x.overdueHead = true := by
    rw [Examined.lines_getLsbD, stays]
    simp
  by_cases trip : n = 0 ∧ x.overdueHead = true
  · rw [if_pos (concerned.mpr trip)] at view
    obtain ⟨rfl, overdue⟩ := trip
    have source : u.sources.getLsbD (0 : Fin 8) = true := h.tripSource (.inr overdue)
    rw [if_pos ⟨rfl, overdue⟩, view, source]
  · rw [if_neg (fun c => trip (concerned.mp c))] at view
    rw [if_neg trip, view]

/-- The contributions where only TRIP can have risen (R10). -/
theorem contributions_of_trip {overdue : Bool}
    (views : ∀ n : Fin 8, u.view n = if n = 0 ∧ overdue = true then (b.view n).formed true else b.view n) :
    u.contributions = if overdue then b.contributions ||| 1#8 else b.contributions := by
  have one : ∀ n : Fin 8, (1#8).getLsbD n = decide (n = 0) := by decide
  apply LineMask.ext_fin
  intro n
  rw [(u.masks_view n).2.1, views n]
  cases overdue with
  | false =>
    rw [if_neg (by simp)]
    exact (b.masks_view n).2.1.symm
  | true =>
    rw [if_pos rfl, BitVec.getLsbD_or, one n, (b.masks_view n).2.1]
    by_cases zero : n = 0
    · rw [if_pos ⟨zero, rfl⟩, LineView.formed_contribution, decide_eq_true zero, Bool.or_true]
    · rw [if_neg (fun h => zero h.1), decide_eq_false zero, Bool.or_false]

/-- Settles O31: the zone is examined, and the lines follow. -/
theorem pulseComparesHeadsAndTails : Obligations.PulseComparesHeadsAndTails := by
  intro dt s tracking features room
  obtain ⟨examined, none⟩ := s.examine_features (s.pulsing dt).travel.z (s.now + dt) s.zone.queue {} features
  have few := List.length_filter_le (fun r => decide (s.goesOverdue (s.pulsing dt).travel.z r)) s.zone.queue
  have gathered := s.encoderPulse_gathers dt tracking examined (.inl rfl)
    (by simp only [List.nil_append, List.length_map]; omega) (.inr (by rw [none]; exact Nat.zero_le _))
  have views := gathered.tripFollows rfl
  obtain ⟨zone, port, mill, formed, -, strobe, travel⟩ := gathered.of_pulsing
  refine ⟨_, exec_encoderPulse dt s tracking, ?_⟩
  generalize (s.pulsing dt).zonePulse = t at *
  intro th late newly cause
  rw [← travel] at zone port views
  have chosen : s.zone.queue.filter (fun r => decide (s.goesOverdue t.travel.z r)) = newly := rfl
  rw [chosen] at zone port views
  refine ⟨?_, ?_, ?_, contributions_of_trip views, views, formed.2.1, ?_, strobe⟩
  · rw [zone, List.nil_append, List.map_map]
    refine List.map_congr_left fun r _ => ?_
    rw [Function.comp, holdAtCeiling_eq]
    have same : late r = decide (s.goesOverdue t.travel.z r) := rfl
    rw [same]
    by_cases overdue : s.goesOverdue t.travel.z r
    · simp only [if_pos overdue, decide_eq_true overdue, if_true]
      rfl
    · simp only [if_neg overdue, decide_eq_false overdue, Bool.false_eq_true, if_false]
      rfl
  · rw [port, List.nil_append]
    refine congrArg _ (List.map_congr_left fun r _ => ?_)
    rw [s.overdueAction_eq, tagByte_eq, kindByte_eq]
  · rw [zone, Bool.false_or]
  · rw [mill, List.append_nil]

end Sys2Proof.Machine
end


section
/-!
The formats of the controller port (section 9.6): fields and their numbers, the response, and READ ZONE.
-/

namespace Sys2Proof.Machine

variable {s : State}

/-! ### Fields -/

theorem ofBigEndian_byte (b : Byte) : ofBigEndian [b] = b.toNat := by
  simp [ofBigEndian]

theorem ofBigEndian_append_byte (bs : List Byte) (b : Byte) : ofBigEndian (bs ++ [b]) = 256 * ofBigEndian bs + b.toNat := by
  simp [ofBigEndian]

/-- A field spells its number modulo its size (section 9.6.2). -/
theorem ofBigEndian_bigEndian (n v : Nat) : ofBigEndian (bigEndian n v) = v % 256 ^ n := by
  induction n generalizing v with
  | zero => simp [bigEndian, ofBigEndian, Nat.mod_one]
  | succ n ih =>
    calc
      ofBigEndian (bigEndian n (v / 256) ++ [BitVec.ofNat 8 v]) = 256 * (v / 256 % 256 ^ n) + v % 256 := by
        rw [ofBigEndian_append_byte, ih, BitVec.toNat_ofNat]
      _ = v % 256 ^ (n + 1) := by rw [pow_succ', Nat.mod_mul, Nat.add_comm]

/-- A field that holds a word of its own width. -/
theorem ofBigEndian_word {n : Nat} {w : Nat} (v : BitVec w) (h : 2 ^ w = 256 ^ n) : ofBigEndian (bigEndian n v.toNat) = v.toNat := by
  rw [ofBigEndian_bigEndian, Nat.mod_eq_of_lt (h ▸ v.isLt)]

/-- A field in two's complement spells its number modulo its size (section 9.6.5). -/
theorem ofBigEndian_signedBytes (n : Nat) (v : Int) : (ofBigEndian (signedBytes n v) : Int) = v % (256 ^ n : Nat) := by
  have size : (0 : Int) < (256 ^ n : Nat) := by exact_mod_cast Nat.pow_pos (n := n) (show 0 < 256 by decide)
  have least := Int.emod_nonneg v size.ne'
  have most := Int.emod_lt_of_pos v size
  unfold signedBytes
  rw [ofBigEndian_bigEndian, Nat.mod_eq_of_lt (by omega), Int.toNat_of_nonneg least]

theorem bigEndian_two (v : BitVec 16) : bigEndian 2 v.toNat = two v := by
  simp only [bigEndian, two, List.nil_append, List.singleton_append]
  have hi : BitVec.ofNat 8 (v.toNat / 256) = v.extractLsb' 8 8 := by
    apply BitVec.eq_of_toNat_eq
    simp [BitVec.extractLsb'_toNat, Nat.shiftRight_eq_div_pow]
  have lo : BitVec.ofNat 8 v.toNat = v.extractLsb' 0 8 := by
    apply BitVec.eq_of_toNat_eq
    simp [BitVec.extractLsb'_toNat]
  rw [hi, lo]

/-- A field of four bytes in two halves. -/
theorem bigEndian_four (v : Nat) :
    bigEndian 4 v
      = two ((BitVec.ofNat 32 v).extractLsb' 16 16) ++ two ((BitVec.ofNat 32 v).extractLsb' 0 16) := by
  rw [← bigEndian_two, ← bigEndian_two]
  have byte {a b : Nat} (h : a % 256 = b % 256) : BitVec.ofNat 8 a = BitVec.ofNat 8 b :=
    BitVec.eq_of_toNat_eq (by simpa using h)
  have hi : ((BitVec.ofNat 32 v).extractLsb' 16 16).toNat = v / 65536 % 65536 := by
    simp only [BitVec.extractLsb'_toNat, BitVec.toNat_ofNat, Nat.shiftRight_eq_div_pow]
    omega
  have lo : ((BitVec.ofNat 32 v).extractLsb' 0 16).toNat = v % 65536 := by
    simp only [BitVec.extractLsb'_toNat, BitVec.toNat_ofNat, Nat.shiftRight_eq_div_pow]
    omega
  simp only [hi, lo, bigEndian, List.nil_append, List.cons_append]
  rw [byte (show v / 256 / 256 / 256 % 256 = v / 65536 % 65536 / 256 % 256 by omega),
    byte (show v / 256 / 256 % 256 = v / 65536 % 65536 % 256 by omega),
    byte (show v / 256 % 256 = v % 65536 / 256 % 256 by omega), byte (show v % 256 = v % 65536 % 256 by omega)]

theorem flagBit_eq (b : Bool) : flagBit b 0 = flagByte b := by cases b <;> rfl

/-! ### The response -/

theorem blockSum_eq (bs : List Byte) : blockSum bs = bs.sum := by
  unfold blockSum
  rw [List.sum_eq_foldl]
  rfl

/-- The response to a command that is carried out (section 9.6.2). -/
theorem responseBlock_done (code : Byte) (data : List Byte) : responseBlock code .done data = doneResponse code data := by
  unfold responseBlock sealBlock doneResponse
  dsimp only
  rw [blockSum_eq]
  rfl

theorem State.answerData_done (s : State) (dt : Nat) (code : Byte) (data : List Byte) :
    (s.elapse dt).answerData code .done data
      = { s with now := s.now + dt, port := { s.port with held := doneResponse code data } } := by
  unfold State.answerData
  rw [responseBlock_done]
  rfl

/-! ### READ ZONE -/

theorem FeatureRecord.bytes_eq (z : TravelWord) (r : FeatureRecord) : r.bytes z = zoneRecordBytes z r := by
  unfold FeatureRecord.bytes zoneRecordBytes
  rw [bigEndian_two, bigEndian_four, kindByte_eq, tagByte_eq, flagBit_eq, List.append_assoc (_ ++ _)]
  obtain ⟨serial, kind, tag, anon, entryW, entryZ, origin, state, learnable⟩ := r
  cases origin <;> cases state <;> rfl

theorem Expectation.bytes_eq (e : Expectation) : e.bytes = two e.serial ++ [kindByte e.kind, tagByte e.tag] := by
  unfold Expectation.bytes
  rw [bigEndian_two, kindByte_eq, tagByte_eq]

theorem Bar.bytes_eq (b : Bar) : b.bytes = two b.serial ++ [tagByte b.tag, flagByte b.joined] := by
  unfold Bar.bytes
  rw [bigEndian_two, tagByte_eq, flagBit_eq]

theorem State.readZoneData_eq (s : State) : s.readZoneData = s.zoneData := by
  unfold State.readZoneData State.zoneData
  rw [funext (FeatureRecord.bytes_eq s.travel.z), funext Expectation.bytes_eq, funext Bar.bytes_eq]

theorem readZone_done (dt : Nat) (s : State) :
    exec (.readZone dt []) s
      = .next { s with now := s.now + dt, port := { s.port with held := doneResponse 18#8 s.zoneData } } := by
  show Host.Outcome.next _ = _
  rw [State.answerData_done, State.readZoneData_eq]
  rfl

end Sys2Proof.Machine
end


section
/-!
READ STATION (section 9.6.5): the condition code, the fields of the 108 bytes, and their values.
-/

namespace Sys2Proof.Machine

variable {s : State}

/-! ### The condition code -/

/-- The highest of the codes 1 to 7 whose condition holds, and 0 where none does. -/
def highest (p : Nat → Bool) : Nat → Nat
  | 0 => 0
  | n + 1 => if p (n + 1) then n + 1 else highest p n

theorem highest_spec (p : Nat → Bool) (zero : p 0 = true) (n : Nat) :
    highest p n ≤ n ∧ p (highest p n) = true ∧ ∀ m ≤ n, highest p n < m → p m = false := by
  induction n with
  | zero => exact ⟨le_rfl, zero, fun m le lt => absurd lt (not_lt.mpr le)⟩
  | succ n ih =>
    unfold highest
    by_cases h : p (n + 1) = true
    · rw [if_pos h]
      exact ⟨le_rfl, h, fun m le lt => absurd lt (not_lt.mpr le)⟩
    · rw [if_neg h]
      obtain ⟨le, holds, none⟩ := ih
      refine ⟨Nat.le_succ_of_le le, holds, fun m hm lt => ?_⟩
      obtain rfl | hm := Nat.eq_or_lt_of_le hm
      · simpa using h
      · exact none m (Nat.lt_succ_iff.mp hm) lt

/-- A condition of the table of R18, as the part tests it. -/
def State.tests (s : State) (code : Nat) : Bool :=
  match code with
  | 7 => s.lines.line.l0.contribution
  | 6 => s.zone.queue.any (fun r => r.state == .overdue)
  | 5 => s.startup.station == .parked
  | 4 => s.startup.station == .placed
  | 3 => s.setNotReady
  | 2 => s.sensing.inhibit.isSome
  | 1 => decide (12 ≤ s.port.actions.length)
  | _ => true

theorem State.conditionCode_eq (s : State) : s.conditionCode = highest s.tests 7 := by
  simp only [State.conditionCode, highest, State.tests, beq_iff_eq, decide_eq_true_eq]
  rfl

theorem Port.tagNotReady_iff (p : Port) (tag : Option SetTag) :
    p.tagNotReady tag = true ↔ tag ≠ none ∧ ∀ t ∈ p.ready, tag ≠ some t := by
  cases tag with
  | none => simp [Port.tagNotReady]
  | some t =>
    simp only [Port.tagNotReady, Bool.not_eq_true', List.contains_eq_mem, decide_eq_false_iff_not, ne_eq, reduceCtorEq,
      not_false_eq_true, true_and, Option.some.injEq]
    exact ⟨fun h u hu e => h (e ▸ hu), fun h ht => h t ht rfl⟩

theorem State.setNotReady_iff (s : State) : s.setNotReady = true ↔ s.condition 3 := by
  unfold State.setNotReady State.condition
  dsimp only
  by_cases first : s.startup.straps.first = true
  · rw [if_pos first, if_pos first]
    cases s.entry.bars with
    | nil => simp
    | cons b bars => simpa using s.port.tagNotReady_iff b.tag
  · rw [if_neg first, if_neg first]
    cases s.handoff.expectations with
    | nil => simp
    | cons e expectations => simp [s.port.tagNotReady_iff]

theorem State.tests_iff (s : State) (code : Nat) : s.tests code = true ↔ s.condition code := by
  match code with
  | 7 => exact Iff.rfl
  | 6 => simp [State.tests, State.condition]
  | 5 => simp [State.tests, State.condition]
  | 4 => simp [State.tests, State.condition]
  | 3 => exact s.setNotReady_iff
  | 2 => simp [State.tests, State.condition, Option.isSome_iff_ne_none]
  | 1 => simp [State.tests, State.condition]
  | 0 => simp [State.tests, State.condition]
  | n + 8 => simp [State.tests, State.condition]

/-- The condition code is the highest whose condition holds (R18). -/
theorem State.hasCondition_conditionCode (s : State) : s.hasCondition s.conditionCode := by
  obtain ⟨le, holds, none⟩ := highest_spec s.tests rfl 7
  rw [← s.conditionCode_eq] at le holds none
  refine ⟨le, (s.tests_iff _).mp holds, fun higher hle lt => ?_⟩
  rw [← s.tests_iff, none higher hle lt]
  exact Bool.false_ne_true

/-! ### Fields of a block -/

/-- The number in the `n` bytes from byte `i`. -/
def fieldOf (data : List Byte) (i n : Nat) : Nat := ofBigEndian ((data.drop i).take n)

/-- A field of a part of the data. -/
theorem fieldOf_part {pre part post : List Byte} {k i n : Nat} (start : pre.length = k) (within : i + n ≤ part.length) :
    fieldOf (pre ++ part ++ post) (k + i) n = fieldOf part i n := by
  unfold fieldOf
  subst start
  rw [List.append_assoc, List.drop_append, List.drop_eq_nil_of_le (by omega), List.nil_append, Nat.add_sub_cancel_left,
    List.drop_append_of_le_length (by omega), List.take_append_of_le_length (by rw [List.length_drop]; omega)]

/-- A field of one byte. -/
theorem fieldOf_byte {data : List Byte} {i : Nat} {b : Byte} (h : data[i]? = some b) : fieldOf data i 1 = b.toNat := by
  obtain ⟨lt, rfl⟩ := List.getElem?_eq_some_iff.mp h
  unfold fieldOf
  rw [List.drop_eq_getElem_cons lt, List.take_succ_cons, List.take_zero, ofBigEndian_byte]

end Sys2Proof.Machine
end


section
/-!
The values in the fields of READ STATION (R164, section 9.6.5).
-/

namespace Sys2Proof.Machine

variable {s : State}

/-! ### The parts of the data -/

/-- Bytes 5 to 31: travel and slip. -/
def State.travelFields (s : State) : List Byte :=
  bigEndian 6 s.travel.w.toNat ++ bigEndian 6 s.travel.z.toNat ++ bigEndian 2 s.travel.r ++ bigEndian 3 s.travel.aLast
    ++ bigEndian 2 s.travel.tp ++ bigEndian 2 s.stripSpeed ++ bigEndian 2 s.slip.code ++ bigEndian 2 s.slip.samples.toNat
    ++ bigEndian 2 s.slip.rejected.toNat

/-- Bytes 50 to 60: sensing and condition. -/
def State.sensingFields (s : State) : List Byte :=
  [s.sensing.load.code, s.sensing.exit.code, flagBit s.sensing.inhibit.isSome 0] ++ bigEndian 2 s.inhibitRemaining
    ++ bigEndian 2 s.sensing.qualifyFail.toNat
    ++ [BitVec.ofNat 8 s.conditionCode, flagBit s.zone.overdueFlag 0, flagBit s.lines.hostTrip 0, s.lines.signals]

/-- Bytes 79 to 84: train lines, and the number of ready tags. -/
def State.lineFields (s : State) : List Byte :=
  [s.copies, s.contributions, s.foreignAsks] ++ bigEndian 2 (askPhases s.lines.line)
    ++ [BitVec.ofNat 8 s.port.ready.length]

/-- Bytes 89 to 107: port and counts. -/
def State.countFields (s : State) : List Byte :=
  [BitVec.ofNat 8 s.port.actions.length, s.port.overflow, flagBit s.port.attnLatch 0 ||| flagBit s.port.attnEnable 1]
    ++ bigEndian 2 s.zone.earlyTakes.toNat ++ bigEndian 2 s.handoff.unmatched.toNat
    ++ bigEndian 2 s.handoff.discarded.toNat ++ bigEndian 2 s.mill.rxErrors.toNat ++ bigEndian 2 s.mill.overlong.toNat
    ++ bigEndian 2 s.mill.unknownKinds.toNat ++ bigEndian 2 s.mill.txErrors.toNat ++ bigEndian 2 s.mill.txOverflows.toNat

/-- The parts of the data before byte 50, and from it. -/
def State.headFields (s : State) : List Byte :=
  [s.startup.station.code, BitVec.ofNat 8 s.startup.position, strapsByte s.startup.straps]

theorem State.readStationData_eq (s : State) :
    s.readStationData
      = s.headFields ++ (claimHeardBytes s.startup.lastClaim ++ (s.travelFields ++ (sampleBytes s.slip.last
          ++ (s.sensingFields ++ (s.handoff.up.bytes s.keepsUp ++ (s.handoff.down.bytes s.keepsDown ++ (s.lineFields
          ++ (readyBytes s.port.ready ++ s.countFields)))))))) := by
  simp only [State.readStationData, State.identityData, State.learningData, State.neighbourData, State.portData,
    State.headFields, State.travelFields, State.sensingFields, State.lineFields, State.countFields, List.append_assoc]

theorem claimHeardBytes_length (c : Option ClaimHeard) : (claimHeardBytes c).length = 2 := by cases c <;> rfl

theorem sampleBytes_length (m : Option Sample) : (sampleBytes m).length = 18 := by cases m <;> rfl

theorem Neighbour.bytes_length (n : Neighbour) (kept : Bool) : (n.bytes kept).length = 9 := by
  unfold Neighbour.bytes
  cases kept <;> rfl

theorem readyBytes_length (l : List SetTag) : (readyBytes l).length = 4 := by
  unfold readyBytes
  rw [List.length_take, List.length_append, List.length_replicate]
  unfold Config.readyCapacity
  omega

/-- A field behind a part of known length. -/
theorem fieldOf_behind {part post : List Byte} {k i n : Nat} (length : part.length = k) :
    fieldOf (part ++ post) (k + i) n = fieldOf post i n := by
  unfold fieldOf
  subst length
  rw [List.drop_append, List.drop_eq_nil_of_le (by omega), List.nil_append, Nat.add_sub_cancel_left]

/-- A field within a part. -/
theorem fieldOf_within {part post : List Byte} {i n : Nat} (within : i + n ≤ part.length) :
    fieldOf (part ++ post) i n = fieldOf part i n := by
  unfold fieldOf
  rw [List.drop_append_of_le_length (by omega), List.take_append_of_le_length (by rw [List.length_drop]; omega)]

/-- Where each part of READ STATION's data stands. -/
structure State.Layout (s : State) (data : List Byte) : Prop where
  head : ∀ i n, i + n ≤ 3 → fieldOf data i n = fieldOf s.headFields i n
  claim : ∀ i n, i + n ≤ 2 → fieldOf data (3 + i) n = fieldOf (claimHeardBytes s.startup.lastClaim) i n
  travel : ∀ i n, i + n ≤ 27 → fieldOf data (5 + i) n = fieldOf s.travelFields i n
  sample : ∀ i n, i + n ≤ 18 → fieldOf data (32 + i) n = fieldOf (sampleBytes s.slip.last) i n
  sensing : ∀ i n, i + n ≤ 11 → fieldOf data (50 + i) n = fieldOf s.sensingFields i n
  up : ∀ i n, i + n ≤ 9 → fieldOf data (61 + i) n = fieldOf (s.handoff.up.bytes s.keepsUp) i n
  down : ∀ i n, i + n ≤ 9 → fieldOf data (70 + i) n = fieldOf (s.handoff.down.bytes s.keepsDown) i n
  lines : ∀ i n, i + n ≤ 6 → fieldOf data (79 + i) n = fieldOf s.lineFields i n
  ready : ∀ i n, i + n ≤ 4 → fieldOf data (85 + i) n = fieldOf (readyBytes s.port.ready) i n
  counts : ∀ i n, fieldOf data (89 + i) n = fieldOf s.countFields i n

theorem State.readStationData_layout (s : State) : s.Layout s.readStationData := by
  have claim := claimHeardBytes_length s.startup.lastClaim
  have sample := sampleBytes_length s.slip.last
  have up := s.handoff.up.bytes_length s.keepsUp
  have down := s.handoff.down.bytes_length s.keepsDown
  have ready := readyBytes_length s.port.ready
  have travel : s.travelFields.length = 27 := by simp [State.travelFields]
  have sensing : s.sensingFields.length = 11 := by simp [State.sensingFields]
  have lines : s.lineFields.length = 6 := by simp [State.lineFields]
  have step {data part post : List Byte} {a b c : Nat}
      (behind : ∀ i n, fieldOf data (a + i) n = fieldOf (part ++ post) i n) (length : part.length = b) (sum : a + b = c)
      (i n : Nat) : fieldOf data (c + i) n = fieldOf post i n := by
    rw [← sum, Nat.add_assoc, behind, fieldOf_behind length]
  rw [s.readStationData_eq]
  have at3 (i n : Nat) := fieldOf_behind (part := s.headFields) (k := 3) (i := i) (n := n) rfl
    (post := claimHeardBytes s.startup.lastClaim ++ (s.travelFields ++ (sampleBytes s.slip.last
      ++ (s.sensingFields ++ (s.handoff.up.bytes s.keepsUp ++ (s.handoff.down.bytes s.keepsDown ++ (s.lineFields
      ++ (readyBytes s.port.ready ++ s.countFields))))))))
  have at5 := step at3 claim (c := 5) rfl
  have at32 := step at5 travel (c := 32) rfl
  have at50 := step at32 sample (c := 50) rfl
  have at61 := step at50 sensing (c := 61) rfl
  have at70 := step at61 up (c := 70) rfl
  have at79 := step at70 down (c := 79) rfl
  have at85 := step at79 lines (c := 85) rfl
  have at89 := step at85 ready (c := 89) rfl
  exact
    { head := fun i n h => fieldOf_within h
      claim := fun i n h => (at3 i n).trans (fieldOf_within (h.trans_eq claim.symm))
      travel := fun i n h => (at5 i n).trans (fieldOf_within (h.trans_eq travel.symm))
      sample := fun i n h => (at32 i n).trans (fieldOf_within (h.trans_eq sample.symm))
      sensing := fun i n h => (at50 i n).trans (fieldOf_within (h.trans_eq sensing.symm))
      up := fun i n h => (at61 i n).trans (fieldOf_within (h.trans_eq up.symm))
      down := fun i n h => (at70 i n).trans (fieldOf_within (h.trans_eq down.symm))
      lines := fun i n h => (at79 i n).trans (fieldOf_within (h.trans_eq lines.symm))
      ready := fun i n h => (at85 i n).trans (fieldOf_within (h.trans_eq ready.symm))
      counts := at89 }

/-- READ STATION's data is 108 bytes long. -/
theorem State.readStationData_length (s : State) : s.readStationData.length = 108 := by
  rw [s.readStationData_eq]
  simp [claimHeardBytes_length, sampleBytes_length, Neighbour.bytes_length, readyBytes_length, State.headFields,
    State.travelFields, State.sensingFields, State.lineFields, State.countFields]

end Sys2Proof.Machine
end


section
/-!
The two READ commands (R163 to R165).
-/

namespace Sys2Proof.Machine

variable {s : State}

/-! ### Fields of explicit parts -/

@[simp] theorem fieldOf_cons_zero (b : Byte) (l : List Byte) : fieldOf (b :: l) 0 1 = b.toNat := fieldOf_byte rfl

@[simp] theorem fieldOf_cons_succ (b : Byte) (l : List Byte) (i n : Nat) : fieldOf (b :: l) (i + 1) n = fieldOf l i n := rfl

/-- A field at the start of a part (section 9.6.2). -/
@[simp] theorem fieldOf_bigEndian (n v : Nat) (l : List Byte) : fieldOf (bigEndian n v ++ l) 0 n = v % 256 ^ n := by
  unfold fieldOf
  rw [List.drop_zero, List.take_append_of_le_length (by simp), List.take_of_length_le (by simp), ofBigEndian_bigEndian]

@[simp] theorem fieldOf_bigEndian_last (n v : Nat) : fieldOf (bigEndian n v) 0 n = v % 256 ^ n := by
  have whole := fieldOf_bigEndian n v []
  rwa [List.append_nil] at whole

/-- A field behind another. -/
theorem fieldOf_skip (k v : Nat) (l : List Byte) (i n : Nat) (h : k ≤ i) :
    fieldOf (bigEndian k v ++ l) i n = fieldOf l (i - k) n := by
  conv_lhs => rw [← Nat.add_sub_cancel' h]
  exact fieldOf_behind (bigEndian_length k v)

theorem flagBit_toNat (b : Bool) : (flagBit b 0).toNat = b.toNat := by cases b <;> rfl

theorem State.travelFields_values (s : State) :
    fieldOf s.travelFields 0 6 = s.travel.w.toNat ∧ fieldOf s.travelFields 6 6 = s.travel.z.toNat
      ∧ fieldOf s.travelFields 12 2 = s.travel.r % 65536 ∧ fieldOf s.travelFields 14 3 = s.travel.aLast % 16777216
      ∧ fieldOf s.travelFields 17 2 = s.travel.tp % 65536 ∧ fieldOf s.travelFields 19 2 = s.stripSpeed
      ∧ fieldOf s.travelFields 21 2 = s.slip.code % 65536 ∧ fieldOf s.travelFields 23 2 = s.slip.samples.toNat
      ∧ fieldOf s.travelFields 25 2 = s.slip.rejected.toNat := by
  have speed : s.stripSpeed < 65536 := by
    unfold State.stripSpeed
    split_ifs <;> omega
  have w : s.travel.w.toNat < 281474976710656 := s.travel.w.isLt
  have z : s.travel.z.toNat < 281474976710656 := s.travel.z.isLt
  have samples : s.slip.samples.toNat < 65536 := s.slip.samples.isLt
  have rejected : s.slip.rejected.toNat < 65536 := s.slip.rejected.isLt
  simp [State.travelFields, fieldOf_skip, Nat.mod_eq_of_lt, *]

theorem State.sensingFields_values (s : State) :
    fieldOf s.sensingFields 0 1 = s.sensing.load.code.toNat ∧ fieldOf s.sensingFields 1 1 = s.sensing.exit.code.toNat
      ∧ fieldOf s.sensingFields 2 1 = (flagBit s.sensing.inhibit.isSome 0).toNat
      ∧ fieldOf s.sensingFields 3 2 = s.inhibitRemaining % 65536
      ∧ fieldOf s.sensingFields 5 2 = s.sensing.qualifyFail.toNat ∧ fieldOf s.sensingFields 7 1 = s.conditionCode
      ∧ fieldOf s.sensingFields 8 1 = (flagBit s.zone.overdueFlag 0).toNat
      ∧ fieldOf s.sensingFields 9 1 = (flagBit s.lines.hostTrip 0).toNat
      ∧ fieldOf s.sensingFields 10 1 = s.lines.signals.toNat := by
  have code : s.conditionCode < 256 := lt_of_le_of_lt s.hasCondition_conditionCode.1 (by decide)
  have fail : s.sensing.qualifyFail.toNat < 65536 := s.sensing.qualifyFail.isLt
  simp [State.sensingFields, fieldOf_skip, Nat.mod_eq_of_lt, *]

theorem State.lineFields_values (s : State) :
    fieldOf s.lineFields 0 1 = s.copies.toNat ∧ fieldOf s.lineFields 1 1 = s.contributions.toNat
      ∧ fieldOf s.lineFields 2 1 = s.foreignAsks.toNat ∧ fieldOf s.lineFields 3 2 = askPhases s.lines.line % 65536
      ∧ fieldOf s.lineFields 5 1 = s.port.ready.length % 256 := by
  simp [State.lineFields, fieldOf_skip]

theorem State.countFields_values (s : State) :
    fieldOf s.countFields 0 1 = s.port.actions.length % 256 ∧ fieldOf s.countFields 1 1 = s.port.overflow.toNat
      ∧ fieldOf s.countFields 2 1 = (flagBit s.port.attnLatch 0 ||| flagBit s.port.attnEnable 1).toNat
      ∧ fieldOf s.countFields 3 2 = s.zone.earlyTakes.toNat ∧ fieldOf s.countFields 5 2 = s.handoff.unmatched.toNat
      ∧ fieldOf s.countFields 7 2 = s.handoff.discarded.toNat ∧ fieldOf s.countFields 9 2 = s.mill.rxErrors.toNat
      ∧ fieldOf s.countFields 11 2 = s.mill.overlong.toNat ∧ fieldOf s.countFields 13 2 = s.mill.unknownKinds.toNat
      ∧ fieldOf s.countFields 15 2 = s.mill.txErrors.toNat ∧ fieldOf s.countFields 17 2 = s.mill.txOverflows.toNat := by
  have small (v : BitVec 16) : v.toNat % 65536 = v.toNat := Nat.mod_eq_of_lt v.isLt
  simp [State.countFields, fieldOf_skip, small, -BitVec.toNat_or]

theorem sampleBytes_values (m : Sample) :
    fieldOf (sampleBytes (some m)) 0 1 = m.source.code.toNat ∧ fieldOf (sampleBytes (some m)) 1 2 = m.serial.toNat
      ∧ fieldOf (sampleBytes (some m)) 3 2 = m.rollTravel % 65536
      ∧ (fieldOf (sampleBytes (some m)) 5 8 : Int) = m.measured.getD 0 % 18446744073709551616
      ∧ fieldOf (sampleBytes (some m)) 13 1 = m.outcome.code.toNat
      ∧ (fieldOf (sampleBytes (some m)) 14 2 : Int) = m.step % 65536
      ∧ fieldOf (sampleBytes (some m)) 16 2 = m.codeAfter % 65536 := by
  have serial : m.serial.toNat < 65536 := m.serial.isLt
  have wide := Int.emod_nonneg (m.measured.getD 0) (show (18446744073709551616 : Int) ≠ 0 by decide)
  have narrow := Int.emod_nonneg m.step (show (65536 : Int) ≠ 0 by decide)
  simp [sampleBytes, signedBytes, fieldOf_skip, Nat.mod_eq_of_lt, *]

theorem Neighbour.bytes_values (r : Neighbour) :
    fieldOf (r.bytes true) 0 1 = 1 ∧ fieldOf (r.bytes true) 1 1 = r.liveness.code.toNat
      ∧ fieldOf (r.bytes true) 2 1 = (r.code.map BitVec.toNat).getD 255
      ∧ fieldOf (r.bytes true) 3 1 = (r.counter.map BitVec.toNat).getD 255
      ∧ fieldOf (r.bytes true) 4 1 = r.gaps.toNat ∧ fieldOf (r.bytes true) 5 2 = (takeRefSerial r.lastTake).toNat
      ∧ fieldOf (r.bytes true) 7 1 = (takeRefKind r.lastTake).toNat
      ∧ fieldOf (r.bytes true) 8 1 = r.silence.isSome.toNat := by
  have serial : (takeRefSerial r.lastTake).toNat < 65536 := (takeRefSerial r.lastTake).isLt
  have small {w : Nat} (v : Option (BitVec w)) (h : w ≤ 8) :
      ((v.map (fun c => c.setWidth 8)).getD 255#8).toNat = (v.map BitVec.toNat).getD 255 := by
    cases v with
    | none => rfl
    | some c => exact BitVec.toNat_setWidth_of_le h
  have code := small r.code (by decide)
  have counter := small r.counter (by decide)
  have silence := flagBit_toNat r.silence.isSome
  unfold Neighbour.bytes
  rw [if_pos rfl]
  simp [fieldOf_skip, Nat.mod_eq_of_lt, *]

/-! ### Values of single fields -/

theorem strapsByte_toNat (p : Straps) :
    (strapsByte p).toNat = p.first.toNat + 2 * p.last.toNat + 4 * p.rate0.toNat + 8 * p.rate1.toNat := by
  obtain ⟨first, last, rate1, rate0⟩ := p
  cases first <;> cases last <;> cases rate1 <;> cases rate0 <;> rfl

theorem flagBits_toNat (a b : Bool) : (flagBit a 0 ||| flagBit b 1).toNat = a.toNat + 2 * b.toNat := by
  cases a <;> cases b <;> rfl

/-- A line in a byte of lines. -/
theorem mask_testBit (p : TrainLine → Bool) (x : Eight TrainLine) (n : Fin 8) :
    (x.mask p).toNat.testBit n = p (x.get n) := by
  rw [BitVec.testBit_toNat]
  exact Eight.mask_getLsbD _ _ _

/-- The phase of a line in the two bytes of phases. -/
theorem askPhases_phase (x : Eight TrainLine) (n : Fin 8) :
    askPhases x < 65536 ∧ askPhases x / 4 ^ n.val % 4 = (x.get n).ask.code := by
  have most (a : OwnAsk) : a.code < 4 := by cases a <;> decide
  have m0 := most x.l0.ask
  have m1 := most x.l1.ask
  have m2 := most x.l2.ask
  have m3 := most x.l3.ask
  have m4 := most x.l4.ask
  have m5 := most x.l5.ask
  have m6 := most x.l6.ask
  have m7 := most x.l7.ask
  unfold askPhases
  refine ⟨by omega, ?_⟩
  match n with
  | 0 =>
    show _ / 1 % 4 = x.l0.ask.code
    omega
  | 1 =>
    show _ / 4 % 4 = x.l1.ask.code
    omega
  | 2 =>
    show _ / 16 % 4 = x.l2.ask.code
    omega
  | 3 =>
    show _ / 64 % 4 = x.l3.ask.code
    omega
  | 4 =>
    show _ / 256 % 4 = x.l4.ask.code
    omega
  | 5 =>
    show _ / 1024 % 4 = x.l5.ask.code
    omega
  | 6 =>
    show _ / 4096 % 4 = x.l6.ask.code
    omega
  | 7 =>
    show _ / 16384 % 4 = x.l7.ask.code
    omega

/-- A ready tag at its place, or 255 (section 9.6.5). -/
theorem readyBytes_get (l : List SetTag) (i : Fin 4) :
    (readyBytes l)[i.val]? = some ((l[i.val]?.map (fun t => tagCode (some t))).getD 255#8) := by
  have lt : i.val < Config.readyCapacity := i.isLt
  unfold readyBytes
  rw [List.getElem?_take_of_lt lt, List.getElem?_append, List.length_map]
  split_ifs with some
  · rw [List.getElem?_map, List.getElem?_eq_getElem some]
    rfl
  · rw [List.getElem?_replicate_of_lt (by omega), List.getElem?_eq_none (by omega)]
    rfl

/-! ### O14 -/

/-- Settles O14: the responses are those of section 9.6, and each field of READ STATION is read off its part of the data. -/
theorem readsOnlyRead : Obligations.ReadsOnlyRead := by
  intro dt s
  refine ⟨readZone_done dt s, (s.elapse dt).readStationData, ?_, (s.elapse dt).readStationData_length, ?_⟩
  · show Host.Outcome.next _ = _
    rw [State.answerData_done]
  intro field detector neighbour
  have place := (s.elapse dt).readStationData_layout
  obtain ⟨w, z, r, aLast, tp, speed, code, samples, rejected⟩ := (s.elapse dt).travelFields_values
  obtain ⟨load, exit, running, remaining, fails, condition, overdue, hostTrip, signals⟩ := (s.elapse dt).sensingFields_values
  obtain ⟨copies, contributions, foreignAsks, phases, readyNumber⟩ := (s.elapse dt).lineFields_values
  obtain ⟨actions, overflow, attention, early, unmatched, discarded, rxErrors, overlong, unknown, txErrors, txOverflows⟩ :=
    (s.elapse dt).countFields_values
  have neighbours (i : Nat) (kept : Bool) (n : Neighbour)
      (h : ∀ j m, j + m ≤ 9 → field (i + j) m = fieldOf (n.bytes kept) j m) : neighbour i kept n := by
    cases kept with
    | false => exact h 0 9 (by decide)
    | true =>
      obtain ⟨present, liveness, code, counter, gaps, serial, kind, silence⟩ := n.bytes_values
      refine ⟨(h 0 1 (by decide)).trans present, (h 1 1 (by decide)).trans (liveness.trans ?_),
        (h 2 1 (by decide)).trans (code.trans ?_), (h 3 1 (by decide)).trans (counter.trans ?_),
        (h 4 1 (by decide)).trans gaps, (h 5 2 (by decide)).trans (serial.trans ?_),
        (h 7 1 (by decide)).trans (kind.trans ?_), (h 8 1 (by decide)).trans silence⟩
      · cases n.liveness <;> rfl
      · cases n.code <;> rfl
      · cases n.counter <;> rfl
      · cases n.lastTake <;> rfl
      · cases n.lastTake with
        | none => rfl
        | some t => exact (congrArg BitVec.toNat (kindByte_eq t.kind)).symm
  have detectors (d : Detector) : d.code.toNat = detector d := by cases d <;> rfl
  refine ⟨⟨?_, ?_, ?_, ?_, ?_⟩, ⟨?_, ?_, ?_, ?_, ?_, ?_⟩, ⟨?_, ?_, ?_, ?_, ?_⟩, ⟨?_, ?_, ?_, ?_, ?_⟩, ⟨?_, ?_, ?_, ?_⟩,
    neighbours 61 _ _ place.up, neighbours 70 _ _ place.down, ?_, ⟨?_, ?_, ?_, ?_, ?_⟩, ?_, ?_, ?_, ?_, ?_, ?_, ?_, ?_⟩
  · refine (place.head 0 1 (by decide)).trans ((fieldOf_cons_zero _ _).trans ?_)
    show s.startup.station.code.toNat = _
    cases s.startup.station <;> rfl
  · exact (place.head 1 1 (by decide)).trans (fieldOf_cons_zero _ _)
  · exact (place.head 2 1 (by decide)).trans ((fieldOf_cons_zero _ _).trans (strapsByte_toNat _))
  · refine (place.claim 0 1 (by decide)).trans ?_
    show fieldOf (claimHeardBytes s.startup.lastClaim) 0 1 = _
    cases s.startup.lastClaim <;> exact fieldOf_cons_zero _ _
  · refine (place.claim 1 1 (by decide)).trans ?_
    show fieldOf (claimHeardBytes s.startup.lastClaim) 1 1 = _
    cases s.startup.lastClaim with
    | none => exact fieldOf_cons_zero _ _
    | some c => exact (fieldOf_cons_zero _ _).trans (flagBits_toNat _ _)
  · exact (place.travel 0 6 (by decide)).trans w
  · exact (place.travel 6 6 (by decide)).trans z
  · exact (place.travel 12 2 (by decide)).trans r
  · exact (place.travel 14 3 (by decide)).trans aLast
  · exact (place.travel 17 2 (by decide)).trans tp
  · exact (place.travel 19 2 (by decide)).trans speed
  · exact (place.travel 21 2 (by decide)).trans code
  · exact (place.travel 23 2 (by decide)).trans samples
  · exact (place.travel 25 2 (by decide)).trans rejected
  · intro none
    refine (place.sample 0 18 (by decide)).trans ?_
    show fieldOf (sampleBytes s.slip.last) 0 18 = 0
    rw [none]
    rfl
  · intro m some
    obtain ⟨source, serial, rollTravel, measured, outcome, step, codeAfter⟩ := sampleBytes_values m
    have at_sample (i n : Nat) (h : i + n ≤ 18) : field (32 + i) n = fieldOf (sampleBytes (.some m)) i n :=
      (place.sample i n h).trans (by rw [← some]; rfl)
    refine ⟨(at_sample 0 1 (by decide)).trans (source.trans ?_), (at_sample 1 2 (by decide)).trans serial,
      (at_sample 3 2 (by decide)).trans rollTravel, ?_, (at_sample 13 1 (by decide)).trans (outcome.trans ?_), ?_,
      (at_sample 16 2 (by decide)).trans codeAfter⟩
    · cases m.source <;> rfl
    · rw [at_sample 5 8 (by decide), measured]
      cases m.measured <;> rfl
    · cases m.outcome <;> rfl
    · rw [at_sample 14 2 (by decide), step]
  · exact (place.sensing 0 1 (by decide)).trans (load.trans (detectors _))
  · exact (place.sensing 1 1 (by decide)).trans (exit.trans (detectors _))
  · intro none
    refine ⟨(place.sensing 2 1 (by decide)).trans (running.trans ?_), (place.sensing 3 2 (by decide)).trans (remaining.trans ?_)⟩
    · show (flagBit s.sensing.inhibit.isSome 0).toNat = 0
      rw [none]
      rfl
    · have stopped : (s.elapse dt).inhibitRemaining = 0 := by
        show State.inhibitRemaining (s.elapse dt) = 0
        unfold State.inhibitRemaining
        rw [show (s.elapse dt).sensing.inhibit = .none from none]
      rw [stopped]
  · intro e some
    refine ⟨(place.sensing 2 1 (by decide)).trans (running.trans ?_), (place.sensing 3 2 (by decide)).trans (remaining.trans ?_)⟩
    · show (flagBit s.sensing.inhibit.isSome 0).toNat = 1
      rw [some]
      rfl
    · have runs : (s.elapse dt).inhibitRemaining = (e - (s.now + dt) + 999) / 1000 := by
        unfold State.inhibitRemaining
        rw [show (s.elapse dt).sensing.inhibit = .some e from some]
        rfl
      rw [runs]
  · exact (place.sensing 5 2 (by decide)).trans fails
  · rw [show field 57 1 = s.conditionCode from (place.sensing 7 1 (by decide)).trans condition]
    exact s.hasCondition_conditionCode
  · exact (place.sensing 8 1 (by decide)).trans (overdue.trans (flagBit_toNat _))
  · exact (place.sensing 9 1 (by decide)).trans (hostTrip.trans (flagBit_toNat _))
  · exact (place.sensing 10 1 (by decide)).trans signals
  · intro n line
    obtain ⟨few, phase⟩ := askPhases_phase s.lines.line n
    refine ⟨?_, ?_, ?_, ?_⟩
    · rw [show field 79 1 = s.copies.toNat from (place.lines 0 1 (by decide)).trans copies]
      exact mask_testBit _ _ n
    · rw [show field 80 1 = s.contributions.toNat from (place.lines 1 1 (by decide)).trans contributions]
      exact mask_testBit _ _ n
    · rw [show field 81 1 = s.foreignAsks.toNat from (place.lines 2 1 (by decide)).trans foreignAsks]
      exact mask_testBit _ _ n
    · rw [show field 82 2 = askPhases s.lines.line % 65536 from (place.lines 3 2 (by decide)).trans phases,
        Nat.mod_eq_of_lt few, phase]
      cases line.ask <;> rfl
  · exact (place.lines 5 1 (by decide)).trans readyNumber
  · intro i
    refine (place.ready i 1 (by omega)).trans ((fieldOf_byte (readyBytes_get s.port.ready i)).trans ?_)
    cases s.port.ready[i.val]? with
    | none => rfl
    | some t => exact Nat.mod_eq_of_lt (lt_trans t.isLt (by decide))
  · exact (place.counts 0 1).trans actions
  · exact (place.counts 1 1).trans overflow
  · exact (place.counts 2 1).trans (attention.trans (flagBits_toNat _ _))
  · exact (place.counts 3 2).trans early
  · exact (place.counts 5 2).trans unmatched
  · exact (place.counts 7 2).trans discarded
  · exact (place.counts 9 2).trans rxErrors
  · exact (place.counts 11 2).trans overlong
  · exact (place.counts 13 2).trans unknown
  · exact (place.counts 15 2).trans txErrors
  · exact (place.counts 17 2).trans txOverflows

end Sys2Proof.Machine
end


section
/-!
The travel of a counted pulse, and what its comparisons leave to the copies of the train lines (R22 to R25, R117).
-/

namespace Sys2Proof.Machine

variable {s u v : State}

/-! ### Copies -/

theorem State.copies_congr (h : v.lines.line = u.lines.line) : v.copies = u.copies := by
  rw [State.copies, State.copies, h]

/-- Forming contributions afresh leaves the copies in every station state (R117). -/
theorem State.copies_formContributions (s : State) (m : LineMask) : (s.formContributions m).copies = s.copies := by
  by_cases operating : s.startup.station.operating = true
  · exact (s.formContributions_linesFormed m operating).copies
  · have written (u : State) (k : LineMask) (c : Bool) : (u.mapLines k (TrainLine.withContribution c)).copies = u.copies :=
      u.copies_mapLines k _ fun _ => rfl
    unfold State.formContributions
    dsimp only
    rw [if_neg operating]
    split_ifs
    · rfl
    · rw [written, written]

/-- A removal leaves the copies (R9, R11). -/
theorem State.copies_remove (s : State) (ahead : List FeatureRecord) (cls : HandedClass) (own : Action)
    (behind : List FeatureRecord) : (s.remove ahead cls own behind).copies = s.copies := by
  unfold State.remove
  rw [State.copies_formContributions]
  exact State.copies_congr (by simp)

theorem State.copies_passJoin (s : State) (r : FeatureRecord) : (s.passJoin r).copies = s.copies :=
  State.copies_congr (by simp [State.passJoin])

theorem State.copies_lapseJoin (s : State) (ahead : List FeatureRecord) (r : FeatureRecord) (behind : List FeatureRecord) :
    (s.lapseJoin ahead r behind).copies = s.copies := by
  unfold State.lapseJoin
  dsimp only
  rw [← s.copies_remove ahead .implied (lapsedAction s.zone.thresholds (r.position s.travel.z) r) behind]
  exact State.copies_congr (by simp only [State.enqueue_frame])

theorem State.copies_cutJoin (s : State) (ahead : List FeatureRecord) (r : FeatureRecord) (behind : List FeatureRecord) :
    (s.cutJoin ahead r behind).copies = s.copies :=
  s.copies_remove ahead .implied _ behind

theorem State.copies_compareHeadOrTail (s : State) (ahead : List FeatureRecord) (r : FeatureRecord)
    (behind : List FeatureRecord) : (s.compareHeadOrTail ahead r behind).copies = s.copies := by
  unfold State.compareHeadOrTail
  dsimp only
  split_ifs
  · exact State.copies_formContributions _ _
  · rfl
  · rfl

/-- The comparisons of a counted pulse leave the copies: only frames of the exchange change them (R117, R129). -/
theorem State.copies_compareZone (u : State) (ahead rest : List FeatureRecord) :
    (u.compareZone ahead rest).copies = u.copies := by
  induction rest generalizing u ahead with
  | nil => rfl
  | cons r behind ih =>
    have stored (w : State) (q : List FeatureRecord) : (w.withZone q).copies = w.copies := rfl
    unfold State.compareZone
    dsimp only
    split_ifs <;>
      simp only [ih, stored, State.copies_cutJoin, State.copies_lapseJoin, State.copies_passJoin,
        State.copies_compareHeadOrTail]

theorem State.copies_zonePulse (u : State) : u.zonePulse.copies = u.copies :=
  u.copies_compareZone [] u.zone.queue

/-! ### O30 -/

/-- T_p of a counted pulse, in the words of R25. -/
theorem pulseInterval_eq (t : TravelCounter) (now : Nat) :
    pulseInterval t now
      = if t.restart = true ∨ 65535 < now - t.lastPulse then 65535
        else if now - t.lastPulse = 0 then 1 else now - t.lastPulse := by
  unfold pulseInterval Config.stalled
  generalize now - t.lastPulse = interval
  by_cases restart : t.restart = true
  · rw [if_pos restart, if_pos (.inl restart)]
  · simp only [if_neg restart, or_iff_right restart]
    split_ifs <;> omega

/-- The travel counter after a counted pulse, with W and Z as sums modulo 2^48 (R23 to R25). -/
theorem State.pulsing_travel (s : State) (dt : Nat) :
    let n := s.startup.config.pitch * (65536 + s.slip.code) + s.travel.r
    let interval := s.now + dt - s.travel.lastPulse
    (s.pulsing dt).travel
      = { w := BitVec.ofNat 48 (s.travel.w.toNat + s.startup.config.pitch)
          z := BitVec.ofNat 48 (s.travel.z.toNat + n / 65536)
          r := n % 65536
          aLast := n / 65536
          tp := if s.travel.restart = true ∨ 65535 < interval then 65535 else if interval = 0 then 1 else interval
          stallRunning := true
          lastPulse := s.now + dt
          restart := false } := by
  have w : (s.pulsing dt).travel.w = BitVec.ofNat 48 (s.travel.w.toNat + s.startup.config.pitch) := by
    unfold State.pulsing TravelCounter.pulse
    rw [BitVec.ofNat_add, BitVec.ofNat_toNat, BitVec.setWidth_eq]
  intro n interval
  rw [← w, ← s.pulsing_z dt, ← pulseInterval_eq]
  rfl

/-- Settles O30: a pulse outside TRACKING does not count; in TRACKING the travel counter moves first, and the zone tracker's
part then touches neither it nor the other units. -/
theorem pulseAdvancesTravel : Obligations.PulseAdvancesTravel := by
  unfold Obligations.PulseAdvancesTravel
  intro dt s
  refine ⟨fun elsewhere => ?_, fun tracking => ?_⟩
  · exact congrArg _ (if_neg elsewhere)
  · intro n interval
    refine ⟨(s.pulsing dt).zonePulse, exec_encoderPulse dt s tracking, ?_⟩
    rw [← s.pulsing_travel dt, State.copies_zonePulse]
    simp [State.zonePulse, State.pulsing, MillLine.sameReceiver, State.copies]

end Sys2Proof.Machine
end


section
/-!
The receiver between frames and at frames that are not valid (R33, R135, R138, R139, R145).
-/

namespace Sys2Proof.Machine

variable {s : State}

/-- A start of frame in READY latches the travel of this moment (R28, R33, R135). -/
theorem exec_startOfFrame_ready (dt : Nat) (ready : s.mill.rx = .ready) :
    exec (.startOfFrame dt) s = .next (s.elapse dt).detectSof := by
  simp [exec, execStartOfFrame, ready]

/-- Elsewhere a dominant bit only ends the idle count (R135). -/
theorem exec_startOfFrame_elsewhere (dt : Nat) (elsewhere : s.mill.rx ≠ .ready) :
    exec (.startOfFrame dt) s = .next ((s.elapse dt).withReceiver s.mill.rx 0) := by
  unfold exec execStartOfFrame
  cases rx : s.mill.rx with
  | ready => exact absurd rx elsewhere
  | hunt => simp [rx]
  | receiving => simp [rx]

/-- Bits are judged only while a frame of another station is being read (R136, R139; log entry 4). -/
theorem exec_frameInvalid_unread (dt : Nat) (bits : List Bool) (unread : ¬ s.reading = true) :
    exec (.frameInvalid dt bits) s = .next (s.elapse dt) :=
  congrArg _ (if_neg unread)

theorem exec_frameInvalid_reading (dt : Nat) (bits : List Bool) (reading : s.reading = true) :
    exec (.frameInvalid dt bits) s = .next ((s.elapse dt).rejectFrame (judgeLine bits)) :=
  congrArg _ (if_pos reading)

/-- Settles O40: a case for each receiver state, and for a frame that is being read the count of each verdict. -/
theorem receiverEvents : Obligations.ReceiverEvents := by
  unfold Obligations.ReceiverEvents
  intro dt s mill latch
  refine ⟨fun ready => ?_, fun elsewhere => ?_, fun hunt => ?_, fun receiving own => ?_, fun stands => ?_, fun bits => ?_⟩
  · exact exec_startOfFrame_ready dt ready
  · exact exec_startOfFrame_elsewhere dt elsewhere
  · simp [exec, execLineIdle, hunt, State.withReceiver, State.elapse, Config.idleBits, mill]
  · simp [exec, execLineIdle, receiving, own, State.elapse, Config.idleBits, mill]
  · obtain ready | ⟨receiving, other⟩ := stands
    · simp [exec, execLineIdle, ready, State.elapse, mill]
    · simp [exec, execLineIdle, receiving, other, State.elapse, mill]
  · intro m m' judged
    refine ⟨fun cause => ?_, fun receiving free other => ?_⟩
    · refine exec_frameInvalid_unread dt bits fun reading => ?_
      obtain ⟨receiving, free, other⟩ := s.reading_iff.mp reading
      simp [receiving, free, other] at cause
    · have rejected := exec_frameInvalid_reading dt bits (s.reading_iff.mpr ⟨receiving, free, other⟩)
      have counts (v : Verdict) (n : MillLine) (h : (s.elapse dt).rejectFrame v = mill n) : judged v n := by
        intro verdict
        rw [rejected, verdict, h]
      exact ⟨counts _ _ rfl, counts _ _ rfl, counts _ _ rfl, counts _ _ rfl, counts _ _ rfl, counts _ _ rfl,
        counts _ _ rfl, counts _ _ rfl, fun _ _ => counts _ _ rfl⟩

end Sys2Proof.Machine
end


section
/-!
Timers that run out: the stall, PACE and silence timers and the veto windows (R18, R26, R78 to R80, R124, R151, R160).
-/

namespace Sys2Proof.Machine

variable {s : State}

/-! ### Posting into any action queue -/

theorem satInc8_eq (c : Byte) : satInc8 c = BitVec.ofNat 8 (min 255 (c.toNat + 1)) := by
  revert c
  decide

/-- Posting finds room or is counted as an overflow; the attention latch is set in both cases (R160, R162). -/
theorem State.post_taking (s : State) (a : Action) : s.post a = { s with port := s.port.taking a } := by
  unfold State.post Port.taking Config.actionCapacity
  split_ifs
  · rfl
  · rw [satInc8_eq]

/-! ### Detectors without a qualification -/

/-- A detector that no qualification has in progress has nothing to accept on LOAD (R41). -/
theorem State.acceptLoad_idle (h : ∀ l : EdgeLatch, s.sensing.load ≠ .qualRise l ∧ s.sensing.load ≠ .qualFall l) :
    s.acceptLoad = s := by
  unfold State.acceptLoad
  split
  case h_1 l load => exact absurd load (h l).1
  case h_2 l load => exact absurd load (h l).2
  all_goals rfl

/-- A detector that no qualification has in progress has nothing to accept on EXIT (R41). -/
theorem State.acceptExit_idle (h : ∀ l : EdgeLatch, s.sensing.exit ≠ .qualRise l ∧ s.sensing.exit ≠ .qualFall l) :
    s.acceptExit = s := by
  unfold State.acceptExit
  split
  case h_1 l exit => exact absurd exit (h l).1
  case h_2 l exit => exact absurd exit (h l).2
  all_goals rfl

/-! ### The PACE timer -/

/-- Only one code is the highest whose condition holds (R18). -/
theorem State.hasCondition_unique {a b : Nat} (ha : s.hasCondition a) (hb : s.hasCondition b) : a = b := by
  obtain ⟨leA, holdsA, noneA⟩ := ha
  obtain ⟨leB, holdsB, noneB⟩ := hb
  by_contra ne
  obtain lt | lt := Nat.lt_or_gt_of_ne ne
  · exact noneA b leB lt holdsB
  · exact noneB a leA lt holdsA

/-- A routine frame changes the mill line alone: where it is lost, no FAULT is posted (R143). -/
theorem State.enqueue_routine (s : State) (body : FrameBody) (age : Option AgeCount) (routine : body.routine = true) :
    s.enqueue body age = { s with mill := (s.enqueue body age).mill } := by
  unfold State.enqueue
  dsimp only
  rw [if_pos routine]
  split_ifs <;> rfl

/-- The PACE of the moment at which its timer runs out, queued, with counter and timer moved on (R78, R79). -/
theorem exec_paceTimerExpiry {e code : Nat} (runs : s.handoff.paceTimer = some e) (holds : s.hasCondition code) :
    exec .paceTimerExpiry s
      = .next
          { s with
            now := max s.now e
            mill :=
              ((s.reach e).enqueue (.pace s.startup.position code s.handoff.paceCounter s.handoff.lastTake) none).mill
            handoff :=
              { s.handoff with
                paceCounter := s.handoff.paceCounter + 1#2
                paceTimer := some (max s.now e + s.startup.config.pacePeriod * 1000) } } := by
  obtain rfl : s.conditionCode = code := State.hasCondition_unique s.hasCondition_conditionCode holds
  unfold exec execPaceTimerExpiry
  dsimp only
  rw [runs]
  dsimp only
  rw [State.enqueue_routine _ _ _ rfl]
  rfl

/-! ### The silence timers -/

/-- The NEIGHBOUR SILENT action of a position on the line. -/
theorem neighbourAction_silent (position : Nat) (most : position ≤ 65535) :
    neighbourAction position false = { kind := .neighbour, value := BitVec.ofNat 16 position } := by
  simp [neighbourAction, saturate16, most]

theorem State.upSilent_eq (s : State) (most : s.startup.position ≤ 8) :
    s.upSilent
      = { s with
          handoff := { s.handoff with up := { s.handoff.up with liveness := .silent, silence := none } }
          port := s.port.taking { kind := .neighbour, value := BitVec.ofNat 16 (s.startup.position - 1) } } := by
  unfold State.upSilent
  rw [State.post_taking, neighbourAction_silent _ (by omega)]
  rfl

/-- A stopped claim repeat starts where the station repeats its CLAIM (R149, R151). -/
theorem State.restartClaimRepeat_eq (s : State) :
    s.restartClaimRepeat
      = { s with
          startup :=
            { s.startup with
              claimRepeat :=
                if s.startup.straps.last = false ∧ s.startup.position < 8 ∧ s.startup.claimRepeat = none then
                  some (s.now + 10000)
                else s.startup.claimRepeat } } := by
  have repeats : s.repeatsClaim = true ∧ s.startup.claimRepeat = none
      ↔ s.startup.straps.last = false ∧ s.startup.position < 8 ∧ s.startup.claimRepeat = none := by
    simp [State.repeatsClaim, and_assoc]
  unfold State.restartClaimRepeat
  simp only [repeats]
  split_ifs
  · rfl
  · rfl

theorem State.downSilent_eq (s : State) (most : s.startup.position ≤ 8) :
    s.downSilent
      = { s with
          handoff := { s.handoff with down := { s.handoff.down with liveness := .silent, silence := none } }
          startup :=
            { s.startup with
              claimRepeat :=
                if s.startup.straps.last = false ∧ s.startup.position < 8 ∧ s.startup.claimRepeat = none then
                  some (s.now + 10000)
                else s.startup.claimRepeat }
          port := s.port.taking { kind := .neighbour, value := BitVec.ofNat 16 (s.startup.position + 1) } } := by
  unfold State.downSilent
  rw [State.restartClaimRepeat_eq, State.post_taking, neighbourAction_silent _ (by omega)]
  rfl

/-! ### The veto windows -/

/-- Lines merged into a slot (R142). -/
theorem Slot.timed_merge (now : Nat) (m : LineMask) (slot : Slot) : slot.timed now (slot.merge now m) := by
  simpa [Slot.remove] using slot.timed_remove_merge now m 0#8

/-- Changing the slot of one kind leaves the others. -/
theorem Slots.get_modify (slots : Slots) (kind other : LineKind) (f : Slot → Slot) :
    (slots.modify kind f).get other = if other = kind then f (slots.get other) else slots.get other := by
  cases kind <;> cases other <;> rfl

/-- A merge moves the filling time of its own slot alone (R120, R142). -/
theorem State.slotsTimed_merge (s : State) (kind : LineKind) (m : LineMask) : s.slotsTimed (s.merge kind m) := by
  intro other
  show Slot.timed s.now (s.mill.slots.get other) ((s.mill.slots.modify kind (Slot.merge s.now m)).get other)
  rw [Slots.get_modify]
  split_ifs
  · exact Slot.timed_merge _ _ _
  · exact Slot.timed_refl _ _

/-- The lines whose windows end together (R124; log entry 19). -/
theorem State.windowsEnding_getLsbD (s : State) (e : Nat) (n : Fin 8) :
    (s.windowsEnding e).getLsbD n = true ↔ (s.view n).line.ask = .window ∧ (s.view n).line.windowEnd = some e := by
  rw [State.windowsEnding, Eight.mask_getLsbD]
  simp [State.view]

/-- The state after the windows that end at a moment have run out (R124). -/
def State.windowsEnd (s : State) (e : Nat) : State :=
  (s.merge .drop (s.windowsEnding e)).mapLines (s.windowsEnding e) (TrainLine.withAsk .dropping)

theorem exec_vetoWindowExpiry {n : Fin 8} {e : Nat} (runs : (s.lines.line.get n).windowEnd = some e) :
    exec (.vetoWindowExpiry n) s = .next ((s.reach e).windowsEnd e) := by
  unfold exec execVetoWindowExpiry
  dsimp only
  rw [runs]
  rfl

theorem State.view_windowsEnd (s : State) (e : Nat) (k : Fin 8) :
    (s.windowsEnd e).view k
      = if (s.view k).line.ask = .window ∧ (s.view k).line.windowEnd = some e then
          { s.view k with line := { (s.view k).line with ask := .dropping, windowEnd := none }, drop := true }
        else s.view k := by
  rw [State.windowsEnd, State.view_mapLines, State.view_merge]
  by_cases ends : (s.windowsEnding e).getLsbD k = true
  · rw [if_pos ((s.windowsEnding_getLsbD e k).mp ends)]
    simp [ends, LineView.merged, TrainLine.withAsk]
  · rw [if_neg (mt (s.windowsEnding_getLsbD e k).mpr ends)]
    rw [Bool.not_eq_true] at ends
    simp only [ends, LineView.merged, Bool.false_eq_true, if_false, Bool.or_false]

/-! ### O54 -/

/-- Settles O54: each timer stopped and running, by what its expiry does at the moment of its limit. -/
theorem timerExpiries : Obligations.TimerExpiries := by
  unfold Obligations.TimerExpiries
  intro s stall
  refine ⟨fun load => ?_, fun exit => ?_, fun stopped => ?_, fun runs => ?_, fun stopped => ?_, fun e runs code holds => ?_,
    fun stopped => ?_, fun stopped => ?_, fun e runs most => ?_, fun e runs most => ?_,
    fun n => ⟨fun stopped => ?_, fun e runs => ?_⟩⟩
  · exact congrArg _ (State.acceptLoad_idle load)
  · exact congrArg _ (State.acceptExit_idle exit)
  · simp [exec, execStallExpiry, stopped]
  · exact if_pos runs
  · simp [exec, execPaceTimerExpiry, stopped]
  · exact exec_paceTimerExpiry runs holds
  · simp [exec, execSilenceTimerExpiry, stopped]
  · simp [exec, execSilenceTimerExpiry, stopped]
  · have silent : exec (.silenceTimerExpiry .upstream) s = .next (s.reach e).upSilent := by
      simp [exec, execSilenceTimerExpiry, runs]
    exact silent.trans (congrArg _ ((s.reach e).upSilent_eq most))
  · have silent : exec (.silenceTimerExpiry .downstream) s = .next (s.reach e).downSilent := by
      simp [exec, execSilenceTimerExpiry, runs]
    exact silent.trans (congrArg _ ((s.reach e).downSilent_eq most))
  · simp [exec, execVetoWindowExpiry, stopped]
  · exact ⟨_, exec_vetoWindowExpiry runs, rfl, (s.reach e).view_windowsEnd e, (s.reach e).slotsTimed_merge .drop _⟩

end Sys2Proof.Machine
end


section
/-!
Stand sensing's own events (R39 to R42, R46, R47): a level that is overdue is settled first, and what the edge or the
countdown then does to the detector.
-/

namespace Sys2Proof.Machine

variable {s : State}

/-! ### Settling before an event -/

/-- The state in which an edge on LOAD, or the start of a countdown, at a moment finds the part (R41; log entry 2). -/
def State.loadSettled (s : State) (moment : Nat) : State := (s.settleLoad moment).reach moment

/-- The state in which an edge on EXIT at a moment finds the part (R41; log entry 2). -/
def State.exitSettled (s : State) (moment : Nat) : State := (s.settleExit moment).reach moment

/-- A level on LOAD that is not overdue only lets the time pass (R41). -/
theorem State.loadSettled_early {dt : Nat} (early : ¬ s.overdue s.sensing.load (s.now + dt)) :
    s.loadSettled (s.now + dt) = s.elapse dt := by
  unfold State.loadSettled
  rw [s.settleLoad_early _ (fun _ => s.not_overdue_edgeTime early), State.reach, Nat.max_eq_right (Nat.le_add_right _ _)]
  rfl

/-- A level on EXIT that is not overdue only lets the time pass (R41). -/
theorem State.exitSettled_early {dt : Nat} (early : ¬ s.overdue s.sensing.exit (s.now + dt)) :
    s.exitSettled (s.now + dt) = s.elapse dt := by
  unfold State.exitSettled
  rw [s.settleExit_early _ (fun _ => s.not_overdue_edgeTime early), State.reach, Nat.max_eq_right (Nat.le_add_right _ _)]
  rfl

/-- An overdue level on LOAD is accepted no later than the moment, and nothing is left to settle then (R41). -/
theorem State.acceptLoad_settled {dt : Nat} (late : s.overdue s.sensing.load (s.now + dt)) :
    s.acceptLoad.now + (s.now + dt - s.acceptLoad.now) = s.now + dt
      ∧ s.acceptLoad.loadSettled (s.now + dt) = s.loadSettled (s.now + dt) := by
  obtain ⟨edge, held⟩ := (s.overdue_iff _ _).mp late
  obtain ⟨now, done⟩ := s.acceptLoad_edge edge
  refine ⟨by omega, ?_⟩
  unfold State.loadSettled
  rw [s.settleLoad_late _ _ edge held, State.settleLoad_early _ _ (by simp [done])]

/-- An overdue level on EXIT is accepted no later than the moment, and nothing is left to settle then (R41). -/
theorem State.acceptExit_settled {dt : Nat} (late : s.overdue s.sensing.exit (s.now + dt)) :
    s.acceptExit.now + (s.now + dt - s.acceptExit.now) = s.now + dt
      ∧ s.acceptExit.exitSettled (s.now + dt) = s.exitSettled (s.now + dt) := by
  obtain ⟨edge, held⟩ := (s.overdue_iff _ _).mp late
  obtain ⟨now, done⟩ := s.acceptExit_edge edge
  refine ⟨by omega, ?_⟩
  unfold State.exitSettled
  rw [s.settleExit_late _ _ edge held, State.settleExit_early _ _ (by simp [done])]

/-! ### Edges -/

/-- An edge to a level takes a detector from one state to another, and abandons an attempt or not (the table of R39 to
R42). -/
def Detector.Moved (latch : EdgeLatch) (level : Bool) (d e : Detector) (failed : Bool) : Prop :=
  (d = .dormant ∧ e = .dormant ∧ failed = false)
    ∨ (d = .armedLow ∧ e = (if level then .qualRise latch else .armedLow) ∧ failed = false)
    ∨ (d = .armedHigh ∧ e = (if level then .armedHigh else .qualFall latch) ∧ failed = false)
    ∨ (∃ l, d = .qualRise l ∧ e = (if level then .qualRise l else .armedLow) ∧ failed = !level)
    ∨ (∃ l, d = .qualFall l ∧ e = (if level then .armedHigh else .qualFall l) ∧ failed = level)
    ∨ (d = .waitLow ∧ e = (if level then .waitLow else .armedLow) ∧ failed = false)

/-- The detectors follow the table (R39, R40, R42). -/
theorem Detector.edge_moved (latch : EdgeLatch) (level : Bool) (d : Detector) :
    Detector.Moved latch level d (d.edge level latch).1 (d.edge level latch).2 := by
  cases d with
  | dormant => exact .inl (by simp [Detector.edge_dormant])
  | armedLow => exact .inr (.inl (by cases level <;> simp [Detector.edge]))
  | armedHigh => exact .inr (.inr (.inl (by cases level <;> simp [Detector.edge])))
  | qualRise l => exact .inr (.inr (.inr (.inl ⟨l, by cases level <;> simp [Detector.edge]⟩)))
  | qualFall l => exact .inr (.inr (.inr (.inr (.inl ⟨l, by cases level <;> simp [Detector.edge]⟩))))
  | waitLow => exact .inr (.inr (.inr (.inr (.inr (by cases level <;> simp [Detector.edge])))))

/-- The qualify-fail count after an edge (R40). -/
theorem State.countFail_eq (s : State) (failed : Bool) :
    s.countFail failed
      = { s with
          sensing :=
            { s.sensing with
              qualifyFail := if failed then satInc16 s.sensing.qualifyFail else s.sensing.qualifyFail } } := by
  cases failed <;> rfl

/-- LOAD stands at the level already (log entry 4). -/
theorem exec_loadEdge_stands (dt : Nat) {level : Bool} (stands : s.pins.load = level) :
    exec (.loadEdge dt level) s = .next (s.elapse dt) :=
  congrArg Host.Outcome.next (if_pos stands)

/-- EXIT stands at the level already (log entry 4). -/
theorem exec_exitEdge_stands (dt : Nat) {level : Bool} (stands : s.pins.exit = level) :
    exec (.exitEdge dt level) s = .next (s.elapse dt) :=
  congrArg Host.Outcome.next (if_pos stands)

/-- An edge on LOAD meets the part with the level of before settled (R41). -/
theorem exec_loadEdge (dt : Nat) {level : Bool} (edge : s.pins.load ≠ level) :
    exec (.loadEdge dt level) s
      = .next
          (State.loadDetects
            { s.loadSettled (s.now + dt) with pins := { (s.loadSettled (s.now + dt)).pins with load := level } } level) :=
  congrArg Host.Outcome.next (if_neg edge)

/-- An edge on EXIT meets the part with the level of before settled (R41). -/
theorem exec_exitEdge (dt : Nat) {level : Bool} (edge : s.pins.exit ≠ level) :
    exec (.exitEdge dt level) s
      = .next
          (State.exitDetects
            { s.exitSettled (s.now + dt) with pins := { (s.exitSettled (s.now + dt)).pins with exit := level } } level) :=
  congrArg Host.Outcome.next (if_neg edge)

/-- An edge that comes behind an overdue level on LOAD comes behind its event (R41; log entry 2). -/
theorem exec_loadEdge_late {dt : Nat} {level : Bool} (edge : s.pins.load ≠ level)
    (late : s.overdue s.sensing.load (s.now + dt)) :
    exec (.loadEdge dt level) s = exec (.loadEdge (s.now + dt - s.acceptLoad.now) level) s.acceptLoad := by
  obtain ⟨moment, settled⟩ := s.acceptLoad_settled late
  rw [exec_loadEdge dt edge, exec_loadEdge _ (by simpa using edge), moment, settled]

/-- An edge that comes behind an overdue level on EXIT comes behind its event (R41; log entry 2). -/
theorem exec_exitEdge_late {dt : Nat} {level : Bool} (edge : s.pins.exit ≠ level)
    (late : s.overdue s.sensing.exit (s.now + dt)) :
    exec (.exitEdge dt level) s = exec (.exitEdge (s.now + dt - s.acceptExit.now) level) s.acceptExit := by
  obtain ⟨moment, settled⟩ := s.acceptExit_settled late
  rw [exec_exitEdge dt edge, exec_exitEdge _ (by simpa using edge), moment, settled]

/-- An edge on LOAD that finds no overdue level acts at its own moment (R39). -/
theorem exec_loadEdge_early {dt : Nat} {level : Bool} (edge : s.pins.load ≠ level)
    (early : ¬ s.overdue s.sensing.load (s.now + dt)) :
    exec (.loadEdge dt level) s
      = .next (State.loadDetects { s with now := s.now + dt, pins := { s.pins with load := level } } level) := by
  rw [exec_loadEdge dt edge, s.loadSettled_early early]
  rfl

/-- An edge on EXIT that finds no overdue level acts at its own moment (R39). -/
theorem exec_exitEdge_early {dt : Nat} {level : Bool} (edge : s.pins.exit ≠ level)
    (early : ¬ s.overdue s.sensing.exit (s.now + dt)) :
    exec (.exitEdge dt level) s
      = .next (State.exitDetects { s with now := s.now + dt, pins := { s.pins with exit := level } } level) := by
  rw [exec_exitEdge dt edge, s.exitSettled_early early]
  rfl

/-- A running countdown blinds LOAD (R47). -/
theorem State.loadDetects_blind (s : State) (level : Bool) (running : s.sensing.inhibit ≠ none) :
    s.loadDetects level = s :=
  if_pos (Option.isSome_iff_ne_none.mpr running)

/-- The LOAD detector without a countdown (R39, R40, R42). -/
theorem State.loadDetects_eq (s : State) (level : Bool) (stopped : s.sensing.inhibit = none) :
    s.loadDetects level
      = { s with
          sensing :=
            { s.sensing with
              load := (s.sensing.load.edge level s.edgeLatch).1
              qualifyFail :=
                if (s.sensing.load.edge level s.edgeLatch).2 then satInc16 s.sensing.qualifyFail
                else s.sensing.qualifyFail } } := by
  unfold State.loadDetects
  rw [if_neg (by simp [stopped])]
  exact State.countFail_eq _ _

/-- The EXIT detector (R39, R40, R42). -/
theorem State.exitDetects_eq (s : State) (level : Bool) :
    s.exitDetects level
      = { s with
          sensing :=
            { s.sensing with
              exit := (s.sensing.exit.edge level s.edgeLatch).1
              qualifyFail :=
                if (s.sensing.exit.edge level s.edgeLatch).2 then satInc16 s.sensing.qualifyFail
                else s.sensing.qualifyFail } } :=
  State.countFail_eq _ _

/-- Settles O35: an overdue level is accepted first; otherwise the detector follows the table, or is blind. -/
theorem sensorEdges : Obligations.SensorEdges := by
  intro dt level s latch moved count
  refine ⟨fun stands => exec_loadEdge_stands dt stands, fun edge late => ⟨_, rfl, exec_loadEdge_late edge late⟩,
    fun edge running early => ?_, fun edge stopped early => ?_,
    fun stands => exec_exitEdge_stands dt stands, fun edge late => ⟨_, rfl, exec_exitEdge_late edge late⟩,
    fun edge early => ?_⟩
  · exact (exec_loadEdge_early edge early).trans (congrArg _ (State.loadDetects_blind _ _ (by exact running)))
  · exact ⟨_, _, Detector.edge_moved latch level s.sensing.load,
      (exec_loadEdge_early edge early).trans (congrArg _ (State.loadDetects_eq _ _ (by exact stopped)))⟩
  · exact ⟨_, _, Detector.edge_moved latch level s.sensing.exit,
      (exec_exitEdge_early edge early).trans (congrArg _ (State.exitDetects_eq _ _))⟩

/-! ### The bite inhibit by command -/

/-- A number of two bytes (section 9.6.2). -/
theorem word16_toNat (hi lo : Byte) : (word16 hi lo).toNat = hi.toNat * 256 + lo.toNat := by
  unfold word16
  rw [BitVec.toNat_append, ← Nat.shiftLeft_add_eq_or_of_lt lo.isLt, Nat.shiftLeft_eq]

/-- INHIBIT with a time meets the part with the level of before settled (R41, R46). -/
theorem exec_inhibit_starts (dt : Nat) {hi lo : Byte} (tracking : s.startup.station = .tracking)
    (positive : 0 < hi.toNat * 256 + lo.toNat) :
    exec (.inhibit dt [hi, lo]) s = .next ((s.loadSettled (s.now + dt)).inhibitFor (hi.toNat * 256 + lo.toNat)) := by
  have allowed : ((s.elapse dt).startup.station == .tracking) = true := by simpa using tracking
  simp only [exec, execInhibit, State.whenAllowed, allowed, if_true, word16_toNat, positive.ne', if_false]
  rfl

/-- INHIBIT with the time 0 (R46). -/
theorem exec_inhibit_zero (dt : Nat) {hi lo : Byte} (tracking : s.startup.station = .tracking)
    (zero : hi.toNat * 256 + lo.toNat = 0) :
    exec (.inhibit dt [hi, lo]) s = .next ((s.elapse dt).inhibitFor 0) := by
  have allowed : ((s.elapse dt).startup.station == .tracking) = true := by simpa using tracking
  simp only [exec, execInhibit, State.whenAllowed, allowed, if_true, word16_toNat, zero]

/-- INHIBIT with a time behind an overdue level on LOAD comes behind its event (R41; log entry 2). -/
theorem exec_inhibit_late {dt : Nat} {hi lo : Byte} (tracking : s.startup.station = .tracking)
    (positive : 0 < hi.toNat * 256 + lo.toNat) (late : s.overdue s.sensing.load (s.now + dt)) :
    exec (.inhibit dt [hi, lo]) s = exec (.inhibit (s.now + dt - s.acceptLoad.now) [hi, lo]) s.acceptLoad := by
  obtain ⟨moment, settled⟩ := s.acceptLoad_settled late
  rw [exec_inhibit_starts dt tracking positive, exec_inhibit_starts _ (by simpa using tracking) positive, moment, settled]

/-- A countdown of at most 2,000 ms starts (R46). -/
theorem State.inhibitFor_within (s : State) {ms : Nat} (positive : 0 < ms) (within : ms ≤ 2000) :
    s.inhibitFor ms = (s.startInhibit ms).answer 13#8 .done := by
  unfold State.inhibitFor Config.inhibitMost
  rw [if_neg positive.ne', if_neg (Nat.not_lt.mpr within)]

/-- A longer countdown is clamped (R46). -/
theorem State.inhibitFor_beyond (s : State) {ms : Nat} (beyond : 2000 < ms) :
    s.inhibitFor ms = (s.startInhibit 2000).answer 13#8 .clamped := by
  unfold State.inhibitFor Config.inhibitMost
  rw [if_neg (by omega), if_pos beyond]

/-- What the start of a countdown leaves of a qualification on LOAD, in the words of O29 (R47). -/
theorem Detector.blind_eq (d : Detector) :
    d.blind = match d with | .qualRise _ => .armedLow | .qualFall _ => .armedHigh | d => d := by
  cases d <;> rfl

/-- The start of a countdown abandons a qualification on LOAD without a count (R47). -/
theorem State.startInhibit_answered (s : State) (dt ms : Nat) (a : Answer) :
    ((s.elapse dt).startInhibit ms).answer 13#8 a
      = { s.answered dt 13#8 a with
          sensing := { s.sensing with inhibit := some (s.now + dt + ms * 1000), load := s.sensing.load.blind } } := by
  simp [State.answer, State.answerData, State.startInhibit, State.elapse, State.answered, responseBlock_nil]

/-- The time 0 without a countdown (R46). -/
theorem State.inhibitFor_zero_stopped (s : State) (stopped : s.sensing.inhibit = none) :
    s.inhibitFor 0 = s.answer 13#8 .done := by
  simp [State.inhibitFor, stopped]

/-- The time 0 ends a running countdown (R46). -/
theorem State.inhibitFor_zero_running (s : State) (running : s.sensing.inhibit ≠ none) :
    s.inhibitFor 0 = s.inhibitExpires.answer 13#8 .done := by
  simp [State.inhibitFor, Option.isSome_iff_ne_none, running]

/-- A countdown that ends at this moment is the expiry of one that runs out at it (R46, R49). -/
theorem exec_biteInhibitExpiry_now (s : State) :
    exec .biteInhibitExpiry { s with sensing := { s.sensing with inhibit := some s.now } } = .next s.inhibitExpires := by
  show Host.Outcome.next
    (State.inhibitExpires { s with now := max s.now s.now, sensing := { s.sensing with inhibit := some s.now } }) = _
  rw [Nat.max_self]
  rfl

/-- Settles O29: with a time the level is settled and the countdown starts; with 0 a running countdown expires. -/
theorem inhibitCommandResult : Obligations.InhibitCommandResult := by
  intro dt hi lo s tracking ms load
  have blinded : s.sensing.load.blind = load := s.sensing.load.blind_eq
  refine ⟨fun positive late => ⟨_, rfl, exec_inhibit_late tracking positive late⟩, fun positive within early => ?_,
    fun beyond early => ?_, fun zero stopped => ?_, fun zero running => ?_⟩
  · rw [exec_inhibit_starts dt tracking positive, s.loadSettled_early early, State.inhibitFor_within _ positive within,
      s.startInhibit_answered, blinded]
  · have positive : 0 < ms := by omega
    rw [exec_inhibit_starts dt tracking positive, s.loadSettled_early early, State.inhibitFor_beyond _ beyond,
      s.startInhibit_answered, blinded]
  · rw [exec_inhibit_zero dt tracking zero, State.inhibitFor_zero_stopped _ (by exact stopped), s.elapse_answer]
  · refine ⟨_, exec_biteInhibitExpiry_now (s.elapse dt), ?_⟩
    rw [exec_inhibit_zero dt tracking zero, State.inhibitFor_zero_running _ (by exact running)]
    simp [State.answer, State.answerData, responseBlock_nil, Answer.code]

end Sys2Proof.Machine
end


section
/-!
The exit gate (R41, R44, R96, R112, R113).
-/

namespace Sys2Proof.Machine

variable {s : State}

/-! ### Early takes, samples and removals -/

/-- The early-take count of a record (R9). -/
theorem State.countEarly_eq (s : State) (r : FeatureRecord) :
    s.countEarly r
      = { s with
          zone :=
            { s.zone with
              earlyTakes := if r.state == .travelling then satInc16 s.zone.earlyTakes else s.zone.earlyTakes } } := by
  unfold State.countEarly FeatureRecord.early
  split_ifs <;> rfl

/-- The slip learner behind an exit gate (R96). -/
theorem State.offerExitSample_eq (s : State) (r : FeatureRecord) (w : TravelWord) :
    s.offerExitSample r w
      = { s with
          slip :=
            if r.kind = .head ∧ r.learnable = true then
              s.slip.sample s.startup.config.zoneLength s.startup.config.gain .exit r.serial (w - r.entryW).toNat
            else s.slip } := by
  unfold State.offerExitSample
  split_ifs <;> rfl

/-- The EXIT_HEAD or EXIT_TAIL of a record in the words of O38 (R112, R113). -/
theorem exitAction_eq (z : TravelWord) (kind : FeatureKind) (r : FeatureRecord) :
    exitAction z kind r
      = { kind := if kind = .head then .exitHead else .exitTail, serial := r.serial, feature := kind.code,
          tag := if kind = .tail then 255#8 else tagCode r.tag, early := r.state == .travelling,
          value := millimetres z r } := by
  unfold exitAction millimetres saturate16
  rw [min_comm]
  rfl

/-- A removal with room for its actions touches queue, port, lines and slots, and brings THREAD up to date (R9, R11). -/
theorem State.remove_result (s : State) (ahead : List FeatureRecord) (own : Action) (behind : List FeatureRecord)
    (operating : s.startup.station.operating = true) (room : s.port.actions.length + ahead.length + 1 ≤ 16) :
    State.onlyLines
        { s with
          zone := { s.zone with queue := behind }
          port := s.port.posted (ahead.map (handed s.travel.z 2#2 false) ++ [own]) }
        (s.remove ahead .implied own behind)
      ∧ s.threadFollows (s.remove ahead .implied own behind) := by
  have removed := s.pulsed_remove (rest := behind) ahead own operating room
  refine ⟨?_, by simpa [State.threadFollows, Examined.lines] using removed.formed⟩
  rw [State.onlyLines_iff, MillLine.eq_iff, removed.zone, removed.port, handedAction_implied]
  simp

/-! ### The exit gate -/

/-- The exit gate takes the front-most record of the kind (R112, R113, R96). -/
theorem State.exitTake_found (d : State) (kind : FeatureKind) (ev : SenseEvent) {ahead behind : List FeatureRecord}
    {r : FeatureRecord} (stands : d.zone.queue = ahead ++ r :: behind) (others : ∀ q ∈ ahead, q.kind ≠ kind)
    (found : r.kind = kind) :
    d.exitTake kind ev
      = ((d.countEarly r).remove ahead .implied (exitAction d.travel.z kind r) behind).offerExitSample r ev.w := by
  unfold State.exitTake
  rw [stands, splitFirst_append (by simpa using found) (by simpa using others)]

/-- The exit gate without a record of the kind (R112, R113). -/
theorem State.exitTake_missing (d : State) (kind : FeatureKind) (ev : SenseEvent)
    (missing : ∀ q ∈ d.zone.queue, q.kind ≠ kind) :
    d.exitTake kind ev = d.post (faultAction .exitUnexpected 0#16 kind.code) := by
  unfold State.exitTake
  rw [splitFirst_none.mpr (by simpa using missing)]

/-- A qualified level on EXIT reaches the exit gate at the end of its qualification (R41, R44). -/
theorem exec_qualificationExpiry_exit {kind : FeatureKind} {l : EdgeLatch}
    (level : (kind = .head ∧ s.sensing.exit = .qualRise l) ∨ (kind = .tail ∧ s.sensing.exit = .qualFall l)) :
    exec (.qualificationExpiry .exit) s
      = .next
          (State.exitTake
            { s with
              now := max s.now (l.time + s.startup.config.qualify)
              sensing := { s.sensing with exit := if kind = .head then .armedHigh else .armedLow } } kind l.event) := by
  show Host.Outcome.next s.acceptExit = _
  unfold State.acceptExit
  obtain ⟨rfl, rise⟩ | ⟨rfl, fall⟩ := level
  · rw [rise]
    rfl
  · rw [fall]
    rfl

/-- Settles O38: the level is accepted, and the exit gate finds a record of the kind or none. -/
theorem exitGateTakes : Obligations.ExitGateTakes := by
  intro kind l s tracking level d
  have accepted : exec (.qualificationExpiry .exit) s = .next (d.exitTake kind l.event) :=
    exec_qualificationExpiry_exit level
  refine ⟨?_, ?_⟩
  · intro missing room
    rw [accepted, d.exitTake_missing kind _ missing, d.post_room _ (by exact room)]
    rfl
  · intro ahead behind r stands others found room early
    have operating : (d.countEarly r).startup.station.operating = true := by
      simp only [State.countEarly_frame, d, tracking]
      rfl
    obtain ⟨only, thread⟩ :=
      (d.countEarly r).remove_result ahead (exitAction d.travel.z kind r) behind operating (by simpa [d] using room)
    have taken := d.exitTake_found kind l.event stands others found
    rw [State.offerExitSample_eq] at taken
    refine ⟨_, accepted.trans (congrArg _ taken), ?_, ?_⟩
    · unfold State.onlyLines at only
      generalize (d.countEarly r).remove ahead .implied (exitAction d.travel.z kind r) behind = u at only ⊢
      rw [only, State.countEarly_eq, exitAction_eq, ← found]
      rfl
    · exact thread.of_eq (by simp [d]) (by simp [d]) rfl rfl rfl rfl

end Sys2Proof.Machine
end


section
/-!
The ready list by command (R57, R58).
-/

namespace Sys2Proof.Machine

variable {s : State}

/-! ### Commands of the ready list -/

theorem StationState.operating_iff (st : StationState) :
    st.operating = true ↔ st = .placed ∨ st = .tracking ∨ st = .parked := by
  cases st <;> decide

/-- Every byte but 255 names a tag (section 9.6.1). -/
theorem tagOfByte_some {b : Byte} {t : SetTag} (h : b.toNat = t.val) : tagOfByte b = some t :=
  tagOfByte_eq (fun absent => absurd t.isLt (by rw [← h, absent]; decide))
    (fun _ same => congrArg some (Fin.ext (h ▸ same)))

/-- The answer to a command that changes the ready list and nothing else (R57, R58). -/
theorem State.withReady_answered (s : State) (dt : Nat) (l : List SetTag) (code : Byte) (a : Answer) :
    ((s.elapse dt).withReady l).answer code a
      = { s.answered dt code a with port := { (s.answered dt code a).port with ready := l } } := by
  rw [← State.elapse_answer]
  rfl

theorem exec_ready (dt : Nat) (tag : Byte) (operating : s.startup.station.operating = true) :
    exec (.ready dt [tag]) s = .next ((s.elapse dt).readyTag tag) :=
  congrArg Host.Outcome.next (if_pos operating)

theorem exec_unready (dt : Nat) (tag : Byte) (operating : s.startup.station.operating = true) :
    exec (.unready dt [tag]) s = .next ((s.elapse dt).unreadyTag tag) :=
  congrArg Host.Outcome.next (if_pos operating)

theorem exec_unready_refused (dt : Nat) (tag : Byte) (waits : ¬ s.startup.station.operating = true) :
    exec (.unready dt [tag]) s = .next (s.answered dt 6#8 .wrongState) := by
  rw [← State.elapse_answer]
  exact congrArg Host.Outcome.next (if_neg waits)

/-- READY of a tag, by the rows of its table (R57). -/
theorem State.readyTag_some (s : State) {tag : Byte} {t : SetTag} (names : tag.toNat = t.val) :
    s.readyTag tag
      = if t ∈ s.port.ready then s.answer 5#8 .done
        else if s.port.ready.length < 4 then (s.withReady (s.port.ready ++ [t])).answer 5#8 .done
        else s.answer 5#8 .full := by
  unfold State.readyTag
  rw [tagOfByte_some names]
  exact ite_congr (propext List.contains_iff_mem) (fun _ => rfl) (fun _ => rfl)

/-- UNREADY of a tag (R58). -/
theorem State.unreadyTag_some (s : State) {tag : Byte} {t : SetTag} (names : tag.toNat = t.val) :
    s.unreadyTag tag
      = if t ∈ s.port.ready then (s.withReady (s.port.ready.filter (fun u => u != t))).answer 6#8 .done
        else s.answer 6#8 .notFound := by
  unfold State.unreadyTag
  rw [tagOfByte_some names]
  exact ite_congr (propext List.contains_iff_mem) (fun _ => rfl) (fun _ => rfl)

/-- Taking out a tag that stands once keeps the order of the rest (R58). -/
theorem filter_ne_split {ahead behind : List SetTag} {t : SetTag} (before : t ∉ ahead) (after : t ∉ behind) :
    (ahead ++ t :: behind).filter (fun u => u != t) = ahead ++ behind := by
  have keeps {l : List SetTag} (h : t ∉ l) : l.filter (fun u => u != t) = l :=
    List.filter_eq_self.mpr (fun u hu => bne_iff_ne.mpr (fun same => h (same ▸ hu)))
  rw [List.filter_append, List.filter_cons_of_neg (by simp), keeps before, keeps after]

/-- Settles O9: the rows of R57 in their order. -/
theorem readyResult : Obligations.ReadyResult := by
  intro dt tag s taken
  rw [exec_ready dt tag ((StationState.operating_iff _).mpr taken)]
  refine ⟨?_, fun t names => ?_⟩
  · rintro rfl
    exact congrArg Host.Outcome.next (s.elapse_answer dt 5#8 .badValue)
  · rw [State.readyTag_some _ names]
    refine ⟨fun there => ?_, fun missing full => ?_, fun missing room => ?_⟩
    · rw [if_pos (by exact there), State.elapse_answer]
    · rw [if_neg (by exact missing), if_neg (by exact not_lt.mpr full), State.elapse_answer]
    · rw [if_neg (by exact missing), if_pos (by exact room), State.withReady_answered]
      rfl

/-- Settles O10: a tag that stands once is filtered out of the list. -/
theorem unreadyResult : Obligations.UnreadyResult := by
  intro dt tag s taken
  have operating : s.startup.station.operating = true ↔ taken := StationState.operating_iff _
  refine ⟨fun waits => exec_unready_refused dt tag (fun h => waits (operating.mp h)), ?_, fun t names => ⟨?_, ?_⟩⟩
  · rintro h rfl
    rw [exec_unready dt _ (operating.mpr h), ← State.elapse_answer]
    rfl
  · intro h missing
    rw [exec_unready dt _ (operating.mpr h), State.unreadyTag_some _ names, if_neg (by exact missing), State.elapse_answer]
  · intro ahead behind h stands before after
    have there : t ∈ s.port.ready := by simp [stands]
    have rest : (s.elapse dt).port.ready.filter (fun u => u != t) = ahead ++ behind :=
      (congrArg _ stands).trans (filter_ne_split before after)
    rw [exec_unready dt _ (operating.mpr h), State.unreadyTag_some _ names, if_pos (by exact there), rest,
      State.withReady_answered]

end Sys2Proof.Machine
end


section
/-!
Offers and binds from upstream (R53, R55, R56, R70, R71).
-/

namespace Sys2Proof.Machine

variable {s : State}

/-! ### A frame from own−1 in TRACKING -/

/-- A valid frame from own−1 acts in TRACKING, and the refresh of the upstream record follows (R53, R70, R141). -/
theorem exec_fromAbove {c : Instr} {dt : Nat} {arb : Arbitration} {acts : State → State}
    (received : receivedFrame c = some (dt, arb))
    (block : ∀ u, frameActs c arb u = u.handled arb (fun v => v.fromAbove arb acts))
    (reading : s.reading = true) (tracking : s.startup.station = .tracking)
    (upstream : arb.position + 1 = s.startup.position) :
    exec c s = .next ((acts (s.delivered dt)).refreshFrom arb) := by
  have operating : (s.delivered dt).startup.station.operating = true :=
    (StationState.operating_iff _).mpr (.inr (.inl tracking))
  rw [exec_receivedFrame received, s.receive_acts dt arb _ reading (fun clash => by omega), block,
    State.handled_operating _ _ operating, State.fromAbove_tracking _ _ (by exact upstream) (by exact tracking)]

/-- The refresh posts its NEIGHBOUR action behind what the frame has posted (R80). -/
theorem State.refreshFrom_posted (w : State) (arb : Arbitration) (as : List Action)
    (operating : w.startup.station.operating = true) (room : w.port.actions.length + as.length < 16) :
    State.refreshFrom { w with port := w.port.posted as } arb
      = { w with handoff := w.refreshed arb w.now, port := w.port.posted (as ++ w.returnActions arb) } := by
  rw [State.refreshFrom_room _ _ (by exact operating) (by simpa [Port.posted] using room), ← Port.posted_posted]
  rfl

/-- The refresh leaves the expectations alone (R80). -/
theorem State.refreshed_withExpectations (s : State) (l : List Expectation) (arb : Arbitration) (now : Nat) :
    (s.withExpectations l).refreshed arb now = { s.refreshed arb now with expectations := l } := by
  unfold State.refreshed State.withExpectations
  dsimp only
  split_ifs <;> rfl

/-- The kind fields that name no kind (R53, R70). -/
theorem FeatureKind.ofCode_eq_none {kind : Byte} :
    Sys2Proof.FeatureKind.ofCode kind = none ↔ kind ≠ 1#8 ∧ kind ≠ 2#8 ∧ kind ≠ 3#8 := by
  unfold Sys2Proof.FeatureKind.ofCode
  split_ifs <;> simp_all

/-- The tag that an OFFER or a BIND gives (R53, R70). -/
theorem tagForKind_eq {k : FeatureKind} {tag : Byte} {label : Option SetTag}
    (absent : k = .tail ∨ tag = 255#8 → label = none)
    (present : k ≠ .tail → ∀ n : SetTag, tag.toNat = n.val → label = some n) : tagForKind k tag = label := by
  unfold tagForKind
  split_ifs with tail
  · exact (absent (.inl tail)).symm
  · exact tagOfByte_eq (fun h => absent (.inr h)) (present tail)

/-! ### The expectation list -/

/-- An offered feature is a duplicate (R55). -/
def State.expectsAlready (s : State) (e : Expectation) : Prop :=
  e.serial ≠ 0#16 ∧ ∃ x ∈ s.handoff.expectations, x.kind = e.kind ∧ x.serial = e.serial

theorem State.expectsAlready_iff (s : State) (e : Expectation) :
    s.expectsAlready e
      ↔ e.serial ≠ 0#16 ∧ s.handoff.expectations.any (fun x => x.kind == e.kind && x.serial == e.serial) = true := by
  simp [State.expectsAlready]

theorem State.appendExpectation_duplicate (s : State) {e : Expectation} (h : s.expectsAlready e) :
    s.appendExpectation e = s := if_pos ((s.expectsAlready_iff e).mp h)

/-- A full list loses the offered feature with FAULT EXPECT_FULL (R55). -/
theorem State.appendExpectation_full (s : State) {e : Expectation} (new : ¬ s.expectsAlready e)
    (full : 6 ≤ s.handoff.expectations.length) :
    s.appendExpectation e = s.post (faultAction .expectFull e.serial e.kind.code (tagCode e.tag)) :=
  (if_neg (fun h => new ((s.expectsAlready_iff e).mpr h))).trans (if_neg (not_lt.mpr full))

/-- The PREPARE of an appended HEAD or JOIN with a tag (R56). -/
def prepares (e : Expectation) : List Action :=
  if e.tag.isSome then [{ kind := .prepare, serial := e.serial, feature := e.kind.code, tag := tagCode e.tag }] else []

theorem prepares_length (e : Expectation) : (prepares e).length ≤ 1 := by
  unfold prepares
  split_ifs <;> simp

/-- An offered feature that finds a place stands youngest, with its PREPARE (R55, R56). -/
theorem State.appendExpectation_room (s : State) {e : Expectation} (new : ¬ s.expectsAlready e)
    (place : s.handoff.expectations.length < 6) (tagless : e.kind = .tail → e.tag = none)
    (room : s.port.actions.length < 16) :
    s.appendExpectation e
      = { s.withExpectations (s.handoff.expectations ++ [e]) with port := s.port.posted (prepares e) } := by
  refine ((if_neg (fun h => new ((s.expectsAlready_iff e).mpr h))).trans (if_pos place)).trans ?_
  by_cases tagged : e.tag.isSome = true
  · have feature : e.kind ≠ .tail := fun tail => by simp [tagless tail] at tagged
    rw [if_pos ⟨feature, tagged⟩, prepares, if_pos tagged]
    exact State.post_room _ _ (by exact room)
  · rw [if_neg (fun h => tagged h.2), prepares, if_neg tagged, Port.posted_nil]
    rfl

theorem State.offerActs_none (s : State) (serial : Serial) {kind : Byte} (tag : Byte)
    (h : Sys2Proof.FeatureKind.ofCode kind = none) : s.offerActs serial kind tag = s.countDiscarded := by
  unfold State.offerActs
  rw [h]

theorem State.offerActs_code (s : State) (serial : Serial) (k : FeatureKind) (tag : Byte) :
    s.offerActs serial k.code tag = s.appendExpectation { serial := serial, kind := k, tag := tagForKind k tag } := by
  unfold State.offerActs
  rw [FeatureKind.ofCode_code]

/-- Settles O47: what the list makes of the offered feature, with the refresh behind it. -/
theorem offerResult : Obligations.OfferResult := by
  intro dt arb serial kind tag s reading tracking upstream room d h c back
  have run : exec c s = .next ((d.offerActs serial kind tag).refreshFrom arb) :=
    exec_fromAbove (acts := fun x => x.offerActs serial kind tag) rfl (fun _ => rfl) reading tracking upstream
  have operating : d.startup.station.operating = true := (StationState.operating_iff _).mpr (.inr (.inl tracking))
  have waits : d.port.actions.length + 2 ≤ 16 := room
  refine ⟨fun head tail join => ?_, ?_⟩
  · rw [run, d.offerActs_none serial tag (FeatureKind.ofCode_eq_none.mpr ⟨head, tail, join⟩),
      State.refreshFrom_room _ _ (by exact operating) (by exact Nat.lt_of_succ_lt waits), State.countDiscarded_refreshed]
    rfl
  · rintro k label rfl absent present e duplicate
    rw [run, d.offerActs_code, tagForKind_eq absent present]
    refine ⟨fun known => ?_, fun new full => ?_, fun new place => ?_⟩
    · rw [d.appendExpectation_duplicate (e := e) known]
      exact congrArg Host.Outcome.next (d.refreshFrom_room arb operating (by omega))
    · rw [d.appendExpectation_full (e := e) new full, d.post_room _ (by omega),
        d.refreshFrom_posted arb _ operating (by rw [List.length_singleton]; omega)]
      rfl
    · have posted := prepares_length e
      rw [d.appendExpectation_room (e := e) new place (fun tail => absent (.inl tail)) (by omega)]
      refine congrArg Host.Outcome.next
        (((d.withExpectations (s.handoff.expectations ++ [e])).refreshFrom_posted arb (prepares e) operating ?_).trans ?_)
      · show d.port.actions.length + _ < 16
        omega
      · rw [State.refreshed_withExpectations]
        rfl

/-! ### The binding of an anonymous record -/

/-- A BIND that is unusable or finds no record (R70). -/
theorem State.bindActs_ignored (s : State) {serial : Serial} {kind anon : Byte} (tag : Byte)
    (h : serial = 0#16 ∨ anon = 0#8 ∨ Sys2Proof.FeatureKind.ofCode kind = none
      ∨ ∀ q ∈ s.zone.queue, q.anon ≠ anon) :
    s.bindActs serial kind tag anon = s := by
  unfold State.bindActs
  cases named : Sys2Proof.FeatureKind.ofCode kind with
  | none => rfl
  | some k =>
    by_cases unusable : serial = 0#16 ∨ anon = 0#8
    · exact if_pos unusable
    · have missing : ∀ q ∈ s.zone.queue, q.anon ≠ anon := by
        obtain zero | zero | unnamed | missing := h
        · exact absurd (.inl zero) unusable
        · exact absurd (.inr zero) unusable
        · simp [named] at unnamed
        · exact missing
      dsimp only
      rw [if_neg unusable, splitFirst_none.mpr (by simpa using missing)]

/-- A usable BIND that finds its record (R70, R71). -/
theorem State.bindActs_found (s : State) {serial : Serial} {anon : Byte} (tag : Byte) (k : FeatureKind)
    {ahead behind : List FeatureRecord} {r : FeatureRecord} (named : serial ≠ 0#16) (usable : anon ≠ 0#8)
    (stands : s.zone.queue = ahead ++ r :: behind) (found : r.anon = anon) (others : ∀ q ∈ ahead, q.anon ≠ anon) :
    s.bindActs serial k.code tag anon
      = if r.kind ≠ k ∨ ∃ q ∈ ahead ++ behind, q.kind = k ∧ q.serial = serial then s
        else
          (s.withZone (ahead ++ { r with serial := serial, tag := tagForKind k tag, anon := 0#8 } :: behind)).post
            { kind := .bound, serial := serial, feature := k.code, tag := tagCode (tagForKind k tag),
              value := anon.setWidth 16 } := by
  have names : (ahead ++ behind).any (fun q => q.kind == k && q.serial == serial) = true
      ↔ ∃ q ∈ ahead ++ behind, q.kind = k ∧ q.serial = serial := by
    simp only [List.any_eq_true, Bool.and_eq_true, beq_iff_eq]
  unfold State.bindActs
  rw [FeatureKind.ofCode_code, stands, splitFirst_append (by simpa using found) (by simpa using others)]
  simp only [named, usable, or_self, if_false, names]

/-- Settles O51: the record that holds the anonymous tag is bound or left, with the refresh behind it. -/
theorem bindResult : Obligations.BindResult := by
  intro dt arb serial kind tag anon s reading tracking upstream room d h c back
  have run : exec c s = .next ((d.bindActs serial kind tag anon).refreshFrom arb) :=
    exec_fromAbove (acts := fun x => x.bindActs serial kind tag anon) rfl (fun _ => rfl) reading tracking upstream
  have operating : d.startup.station.operating = true := (StationState.operating_iff _).mpr (.inr (.inl tracking))
  have waits : d.port.actions.length + 2 ≤ 16 := room
  have unbound (same : d.bindActs serial kind tag anon = d) :
      exec c s = .next { d with handoff := h, port := s.port.posted back } := by
    rw [run, same]
    exact congrArg Host.Outcome.next (d.refreshFrom_room arb operating (by omega))
  refine ⟨fun ignored => ?_, ?_⟩
  · rw [← FeatureKind.ofCode_eq_none] at ignored
    exact unbound (d.bindActs_ignored tag ignored)
  · rintro k ahead behind r label named usable rfl stands found others absent present other
    have bound := d.bindActs_found tag k named usable stands found others
    rw [tagForKind_eq absent present] at bound
    refine ⟨fun unfit => unbound (bound.trans (if_pos unfit)), fun fit free => ?_⟩
    rw [run, bound, if_neg (not_or.mpr ⟨not_not.mpr fit, free⟩), State.post_room _ _ (by exact Nat.lt_of_succ_lt waits)]
    exact congrArg Host.Outcome.next
      ((d.withZone (ahead ++ { r with serial := serial, tag := label, anon := 0#8 } :: behind)).refreshFrom_posted arb _
        operating waits)

end Sys2Proof.Machine
end


section
/-!
Takes from downstream (R9, R34, R69, R72 to R76, R95).
-/

namespace Sys2Proof.Machine

variable {s : State}

/-! ### Removals of every class -/

/-- The HANDED action of every class in the words of O48 and O52 (R76). -/
theorem handedAction_code (z : TravelWord) (cls : HandedClass) (early : Bool) :
    handedAction z cls early = handed z cls.code early := by
  funext r
  unfold handedAction handed millimetres saturate16
  rw [min_comm]
  rfl

/-- The zone and the port once records have left, before THREAD follows: the queue holds what stood behind them, an early take
is counted, and their actions are posted (R9, R76). -/
def State.leaving (d : State) (behind : List FeatureRecord) (early : Bool) (as : List Action) : State :=
  { d with
    zone :=
      { d.zone with
        queue := behind, earlyTakes := if early then satInc16 d.zone.earlyTakes else d.zone.earlyTakes }
    port := d.port.posted as }

/-- A record that leaves with those ahead of it, with room for their actions (R9, R11, R76). -/
theorem State.countEarly_remove (d : State) (ahead : List FeatureRecord) (r : FeatureRecord) (behind : List FeatureRecord)
    (aheadClass cls : HandedClass) (room : d.port.actions.length + ahead.length + 1 ≤ 16) :
    (d.countEarly r).remove ahead aheadClass (handedAction d.travel.z cls r.early r) behind
      = (d.leaving behind (r.state == .travelling)
          (ahead.map (handed d.travel.z aheadClass.code false)
            ++ [handed d.travel.z cls.code (r.state == .travelling) r])).formContributions threadLine := by
  have earlier : d.port.actions.length + ahead.length ≤ 16 := Nat.le_of_succ_le room
  unfold State.remove
  rw [State.countEarly_eq, State.postAll_room _ _ (by simpa using earlier),
    State.post_room _ _ (by simp only [Port.posted, List.length_append, List.length_map]; omega), Port.posted_posted,
    handedAction_code, handedAction_code]
  rfl

/-- The removal touches lines and slots besides, and THREAD follows (R11). -/
theorem State.leaving_formed (d : State) (behind : List FeatureRecord) (early : Bool) (as : List Action)
    (operating : d.startup.station.operating = true) :
    State.onlyLines (d.leaving behind early as) ((d.leaving behind early as).formContributions threadLine)
      ∧ d.threadFollows ((d.leaving behind early as).formContributions threadLine) := by
  have formed := (d.leaving behind early as).formContributions_linesFormed threadLine operating
  exact ⟨State.formContributions_onlyLines _ _, formed.of_eq rfl rfl rfl rfl rfl rfl⟩

/-! ### A TAKE at the station that it is for -/

/-- A TAKE from another position reaches the hand-off unit, and the refresh of a neighbour record follows (R72, R141). -/
theorem exec_takeReceived (dt : Nat) {arb : Arbitration} (serial : Serial) (kind anon : Byte) (age : BitVec 16)
    (reading : s.reading = true) (operating : s.startup.station.operating = true)
    (other : arb.position ≠ s.startup.position) :
    exec (.takeReceived dt arb serial kind anon age) s
      = .next (((s.delivered dt).takeArrives arb serial kind anon age.toNat).refreshFrom arb) := by
  rw [exec_receivedFrame rfl, s.receive_acts dt arb _ reading (fun clash => other clash.2)]
  exact congrArg Host.Outcome.next
    ((s.delivered dt).handled_operating arb (fun v => v.takeArrives arb serial kind anon age.toNat) operating)

section

variable {arb : Arbitration} (d : State) (serial : Serial) (anon : Byte) (age : Nat)

/-- A TAKE from own+1 whose kind field names no kind (R72, R93). -/
theorem State.takeArrives_unusable {kind : Byte} (last : d.startup.straps.last = false)
    (downstream : arb.position = d.startup.position + 1) (unusable : Sys2Proof.FeatureKind.ofCode kind = none) :
    d.takeArrives arb serial kind anon age = d.countDiscarded := by
  simp [State.takeArrives, State.fromDownstream, last, downstream, unusable]

/-- A usable TAKE from own+1 (R72). -/
theorem State.takeArrives_usable (k : FeatureKind) (last : d.startup.straps.last = false)
    (downstream : arb.position = d.startup.position + 1) :
    d.takeArrives arb serial k.code anon age = d.takeActs serial k anon age := by
  simp [State.takeArrives, State.fromDownstream, last, downstream]

end

/-- What a usable TAKE looks for: the kind with the serial named, or for serial 0 the kind at or past the early window
(R73, R74). -/
def State.takeNames (s : State) (serial : Serial) (k : FeatureKind) (r : FeatureRecord) : Prop :=
  r.kind = k ∧ (serial ≠ 0#16 → r.serial = serial)
    ∧ (serial = 0#16 → s.zone.thresholds.early ≤ r.position s.travel.z)

/-- A usable TAKE takes the front-most record that it looks for (R73, R74). -/
theorem State.takeFinds_split (s : State) (serial : Serial) (k : FeatureKind) :
    ∃ p : FeatureRecord → Bool, (∀ r, p r = true ↔ s.takeNames serial k r)
      ∧ s.takeFinds serial k = splitFirst p s.zone.queue := by
  by_cases anonymous : serial = 0#16
  · exact ⟨_, fun r => by simp [State.takeNames, anonymous], if_pos anonymous⟩
  · exact ⟨_, fun r => by simp [State.takeNames, anonymous], if_neg anonymous⟩

/-- A usable TAKE that finds no record (R73). -/
theorem State.takeActs_missing (d : State) {serial : Serial} {k : FeatureKind} (anon : Byte) (age : Nat)
    (missing : ∀ q ∈ d.zone.queue, ¬ d.takeNames serial k q) :
    d.takeActs serial k anon age = d.countUnmatched := by
  obtain ⟨p, names, finds⟩ := d.takeFinds_split serial k
  unfold State.takeActs
  rw [finds, splitFirst_none.mpr (fun q hq => Bool.eq_false_iff.mpr (fun hp => missing q hq ((names q).mp hp)))]

/-- The slip learner behind a TAKE (R34, R35, R75, R95). -/
theorem State.offerTakeSample_eq (s : State) (r : FeatureRecord) (age : BitVec 16) :
    s.offerTakeSample r age.toNat
      = { s with
          slip :=
            if r.kind = .head ∧ r.learnable = true ∧ age ≠ 65535#16 ∧ s.mill.sof.tp ≠ 65535 then
              s.slip.sample s.startup.config.zoneLength s.startup.config.gain .take r.serial
                (s.mill.sof.w - BitVec.ofNat 48 (age.toNat * s.startup.config.pitch / s.mill.sof.tp) - r.entryW).toNat
            else s.slip } := by
  have fresh : age.toNat < Config.staleAge ↔ age ≠ 65535#16 := by
    unfold Config.staleAge
    bv_omega
  unfold State.offerTakeSample Config.stalled
  simp only [fresh]
  split_ifs with learns
  · unfold State.makeSample eventW rollBack
    rw [if_neg (by exact learns.2.2.2)]
  · rfl

/-- The BIND that a matched take of a named record queues (R69, R75). -/
def takeBind (serial : Serial) (r : FeatureRecord) (anon : Byte) : List QueuedFrame :=
  if serial = 0#16 ∧ r.serial ≠ 0#16 then
    [{ body := .bind r.serial r.kind r.tag anon, age := none, flying := false }]
  else []

/-- The places with frames queued behind those that wait (R143). -/
def State.queueing (u : State) (frames : List QueuedFrame) : State :=
  { u with mill := { u.mill with queue := u.mill.queue ++ frames } }

theorem State.enqueue_takeBind (u : State) (serial : Serial) (r : FeatureRecord) (anon : Byte)
    (place : u.mill.queue.length < 8) :
    (if serial = 0#16 ∧ r.serial ≠ 0#16 then u.enqueue (.bind r.serial r.kind r.tag anon) none else u)
      = u.queueing (takeBind serial r anon) := by
  unfold takeBind State.queueing
  split_ifs
  · exact u.enqueue_room _ _ rfl place
  · rw [List.append_nil]

/-- The actions of a usable TAKE: IMPLIED for the records ahead, then MATCHED or DIRECT for the one taken (R75, R76). -/
def takeActions (z : TravelWord) (serial : Serial) (ahead : List FeatureRecord) (r : FeatureRecord) : List Action :=
  ahead.map (handed z 2#2 false) ++ [handed z (if serial = 0#16 then 1#2 else 0#2) (r.state == .travelling) r]

/-- A usable TAKE that finds its record: the removal, the BIND, and the offer of a sample (R75). -/
theorem State.takeActs_found (d : State) {serial : Serial} {k : FeatureKind} (anon : Byte) (age : Nat)
    {ahead behind : List FeatureRecord} {r : FeatureRecord} (stands : d.zone.queue = ahead ++ r :: behind)
    (others : ∀ q ∈ ahead, ¬ d.takeNames serial k q) (found : d.takeNames serial k r)
    (room : d.port.actions.length + ahead.length + 1 ≤ 16) (place : d.mill.queue.length < 8) :
    d.takeActs serial k anon age
      = (((d.leaving behind (r.state == .travelling) (takeActions d.travel.z serial ahead r)).formContributions
            threadLine).queueing (takeBind serial r anon)).offerTakeSample r age := by
  obtain ⟨p, names, finds⟩ := d.takeFinds_split serial k
  have cls : (if serial = 0#16 then HandedClass.matched else .direct).code = if serial = 0#16 then 1#2 else 0#2 := by
    split_ifs <;> rfl
  have removed := d.countEarly_remove ahead r behind .implied (if serial = 0#16 then .matched else .direct) room
  rw [cls] at removed
  unfold State.takeActs
  rw [finds, stands, splitFirst_append ((names r).mpr found)
    (fun q hq => Bool.eq_false_iff.mpr (fun hp => others q hq ((names q).mp hp)))]
  dsimp only
  rw [State.enqueue_takeBind _ _ _ _ (by simpa using place), removed]
  rfl

theorem State.countUnmatched_refreshed (s : State) (arb : Arbitration) (now : Nat) :
    s.countUnmatched.refreshed arb now = { s.refreshed arb now with unmatched := satInc16 s.handoff.unmatched } := by
  unfold State.refreshed State.countUnmatched
  dsimp only
  split_ifs <;> rfl

/-- Settles O48: what the zone makes of the reported take, with the refresh behind it. -/
theorem takeResult : Obligations.TakeResult := by
  intro dt arb serial kind anon age s reading operating last downstream d h c back
  have other : arb.position ≠ s.startup.position := by omega
  have run := exec_takeReceived dt serial kind anon age reading operating other
  refine ⟨fun head tail join waits => ?_, ?_⟩
  · rw [run, State.takeArrives_unusable _ _ _ _ (by exact last) (by exact downstream)
        (FeatureKind.ofCode_eq_none.mpr ⟨head, tail, join⟩),
      State.refreshFrom_room _ _ (by exact operating) (by exact waits), State.countDiscarded_refreshed]
    rfl
  · rintro k rfl found
    rw [State.takeArrives_usable _ _ _ _ _ (by exact last) (by exact downstream)] at run
    refine ⟨fun missing waits => ?_, ?_⟩
    · rw [run, State.takeActs_missing _ _ _ (by exact missing),
        State.refreshFrom_room _ _ (by exact operating) (by exact waits), State.countUnmatched_refreshed]
      rfl
    · intro ahead behind r stands others finds room place early cls arrival
      have spare : d.port.actions.length + ahead.length + 1 < 16 := room
      have taken := d.takeActs_found anon age.toNat stands others finds spare.le place
      obtain ⟨only, thread⟩ := d.leaving_formed behind early (takeActions d.travel.z serial ahead r) operating
      rw [State.offerTakeSample_eq, finds.1] at taken
      generalize (d.leaving behind _ _).formContributions threadLine = u at taken only thread
      have waits : u.port.actions.length < 16 := by
        rw [only]
        simpa [State.leaving, Port.posted, takeActions, ← Nat.add_assoc] using spare
      refine ⟨_, (run.trans (congrArg (fun v => Host.Outcome.next (v.refreshFrom arb)) taken)).trans
        (congrArg _ (State.refreshFrom_room _ _ ?_ (by exact waits))), ?_, ?_⟩
      · rw [only]
        exact operating
      · rw [only, ← s.port.posted_posted _ back]
        rfl
      · exact thread.of_eq rfl rfl rfl rfl rfl rfl

end Sys2Proof.Machine
end


section
/-!
Pace reports of the neighbours (R80 to R82).
-/

namespace Sys2Proof.Machine

variable {s : State}

/-! ### What a PACE says -/

/-- The fields of a PACE's first byte (section 9.6.1). -/
theorem readPaceHead_eq (head : Byte) :
    readPaceHead head
      = { position := head.toNat / 32 + 1, code := BitVec.ofNat 3 (head.toNat / 4 % 8),
          counter := BitVec.ofNat 2 (head.toNat % 4) } := by
  have low := head.isLt
  simp only [readPaceHead, PaceHead.mk.injEq, Nat.add_right_cancel_iff]
  refine ⟨?_, BitVec.eq_of_toNat_eq ?_, BitVec.eq_of_toNat_eq ?_⟩ <;>
    simp only [BitVec.extractLsb'_toNat, BitVec.toNat_ofNat, Nat.shiftRight_eq_div_pow] <;> omega

/-- The last take that a PACE from a position reports, if it is usable (R81). -/
def paceReport (arb : Arbitration) (head : Byte) (serial : Serial) (kind : Byte) : Option (Option TakeRef) :=
  if (readPaceHead head).position = arb.position then readLastTake serial kind else none

/-- The kind fields that name a last take, or that there was none (R81). -/
theorem readLastTake_cases (serial : Serial) (kind : Byte) :
    (kind = 0#8 ∧ readLastTake serial kind = some none)
      ∨ (∃ k : FeatureKind, kind = k.code ∧ readLastTake serial kind = some (some { serial := serial, kind := k }))
      ∨ (¬ (kind = 0#8 ∨ kind = 1#8 ∨ kind = 2#8 ∨ kind = 3#8) ∧ readLastTake serial kind = none) := by
  by_cases zero : kind = 0#8
  · exact .inl ⟨zero, if_pos zero⟩
  by_cases named : ∃ k : FeatureKind, kind = k.code
  · obtain ⟨k, rfl⟩ := named
    refine .inr (.inl ⟨k, rfl, ?_⟩)
    unfold readLastTake
    rw [if_neg zero, FeatureKind.ofCode_code]
  · have head : kind ≠ 1#8 := fun h => named ⟨.head, h⟩
    have tail : kind ≠ 2#8 := fun h => named ⟨.tail, h⟩
    have join : kind ≠ 3#8 := fun h => named ⟨.join, h⟩
    refine .inr (.inr ⟨by simp [zero, head, tail, join], ?_⟩)
    unfold readLastTake
    rw [if_neg zero, FeatureKind.ofCode_eq_none.mpr ⟨head, tail, join⟩]

/-- An unusable PACE reports nothing (R81). -/
theorem paceReport_unusable {arb : Arbitration} {head : Byte} (serial : Serial) {kind : Byte}
    (h : ¬ (head.toNat / 32 + 1 = arb.position ∧ (kind = 0#8 ∨ kind = 1#8 ∨ kind = 2#8 ∨ kind = 3#8))) :
    paceReport arb head serial kind = none := by
  unfold paceReport
  rw [readPaceHead_eq]
  split_ifs with own
  · obtain ⟨rfl, -⟩ | ⟨k, rfl, -⟩ | ⟨-, unnamed⟩ := readLastTake_cases serial kind
    · exact absurd ⟨own, .inl rfl⟩ h
    · exact absurd ⟨own, by cases k <;> decide⟩ h
    · exact unnamed
  · rfl

/-- A usable PACE reports its last take (R81). -/
theorem paceReport_usable {arb : Arbitration} {head : Byte} {serial : Serial} {kind : Byte} {last : Option TakeRef}
    (absent : kind = 0#8 → last = none)
    (present : ∀ k : FeatureKind, kind = k.code → last = some { serial := serial, kind := k })
    (h : head.toNat / 32 + 1 = arb.position ∧ (kind = 0#8 ∨ kind = 1#8 ∨ kind = 2#8 ∨ kind = 3#8)) :
    paceReport arb head serial kind = some last := by
  unfold paceReport
  rw [readPaceHead_eq, if_pos h.1]
  obtain ⟨zero, report⟩ | ⟨k, named, report⟩ | ⟨unnamed, -⟩ := readLastTake_cases serial kind
  · rw [report, absent zero]
  · rw [report, present k named]
  · exact absurd h.2 unnamed

/-- A neighbour record after a usable PACE, in the words of O52 (R81). -/
def Neighbour.paced (n : Neighbour) (head : Byte) (last : Option TakeRef) : Neighbour :=
  let counter : BitVec 2 := BitVec.ofNat 2 (head.toNat % 4)
  { n with
    gaps :=
      match n.counter with
      | none => n.gaps
      | some k => BitVec.ofNat 8 (min 255 (n.gaps.toNat + (counter.toNat + 4 - k.toNat + 3) % 4))
    counter := some counter
    code := some (BitVec.ofNat 3 (head.toNat / 4 % 8))
    lastTake := last }

/-- The counter values missed between two that were received (R81). -/
theorem gapsAdded_some (before received : BitVec 2) :
    gapsAdded (some before) received = (received.toNat + 4 - before.toNat + 3) % 4 := by
  unfold gapsAdded
  bv_omega

theorem Neighbour.pace_eq_paced (n : Neighbour) (head : Byte) (last : Option TakeRef) :
    n.pace (readPaceHead head) last = n.paced head last := by
  unfold Neighbour.pace Neighbour.paced
  rw [readPaceHead_eq]
  cases received : n.counter with
  | none =>
    have stands : min 255 n.gaps.toNat = n.gaps.toNat := by
      have := n.gaps.isLt
      omega
    simp [gapsAdded, stands]
  | some before => simp only [gapsAdded_some]

/-! ### A PACE at a neighbour -/

theorem exec_paceReceived (dt : Nat) {arb : Arbitration} (head : Byte) (serial : Serial) (kind : Byte)
    (reading : s.reading = true) (operating : s.startup.station.operating = true)
    (other : arb.position ≠ s.startup.position) :
    exec (.paceReceived dt arb head serial kind) s
      = .next ((s.delivered dt).paceArrives arb (readPaceHead head) (readLastTake serial kind)) := by
  rw [exec_receivedFrame rfl, s.receive_acts dt arb _ reading (fun clash => other clash.2)]
  exact congrArg Host.Outcome.next (if_pos operating)

section

variable {d : State} {arb : Arbitration}

/-- The frames that refresh the upstream record (R80). -/
theorem State.upstream_iff :
    (d.keepsUp && d.fromUpstream arb) = true
      ↔ d.startup.straps.first = false ∧ arb.position + 1 = d.startup.position := by
  simp [State.keepsUp, State.fromUpstream]

/-- The frames that refresh the downstream record (R80). -/
theorem State.downstream_iff :
    (d.keepsDown && d.fromDownstream arb) = true
      ↔ d.startup.straps.last = false ∧ arb.position = d.startup.position + 1 := by
  simp [State.keepsDown, State.fromDownstream]

variable {head : Byte} {serial : Serial} {kind : Byte}

/-- An unusable PACE of a neighbour (R81). -/
theorem State.paceArrives_unusable
    (neighbour : (d.startup.straps.first = false ∧ arb.position + 1 = d.startup.position)
      ∨ (d.startup.straps.last = false ∧ arb.position = d.startup.position + 1))
    (report : paceReport arb head serial kind = none) :
    d.paceArrives arb (readPaceHead head) (readLastTake serial kind) = (d.refreshFrom arb).countDiscarded := by
  unfold paceReport at report
  rw [← State.upstream_iff, ← State.downstream_iff] at neighbour
  unfold State.paceArrives
  dsimp only
  rw [report]
  split_ifs with up down
  · rfl
  · rfl
  · exact absurd neighbour (not_or.mpr ⟨up, down⟩)

/-- A usable PACE from own−1 (R81). -/
theorem State.paceArrives_up {last : Option TakeRef}
    (up : d.startup.straps.first = false ∧ arb.position + 1 = d.startup.position)
    (report : paceReport arb head serial kind = some last) :
    d.paceArrives arb (readPaceHead head) (readLastTake serial kind)
      = { d.refreshFrom arb with
          handoff := { (d.refreshFrom arb).handoff with up := (d.refreshFrom arb).handoff.up.paced head last } } := by
  unfold paceReport at report
  unfold State.paceArrives
  dsimp only
  rw [report, if_pos (State.upstream_iff.mpr up)]
  dsimp only
  rw [Neighbour.pace_eq_paced]

/-- A usable PACE from own+1 (R81, R82). -/
theorem State.paceArrives_down {last : Option TakeRef}
    (down : d.startup.straps.last = false ∧ arb.position = d.startup.position + 1)
    (report : paceReport arb head serial kind = some last) :
    d.paceArrives arb (readPaceHead head) (readLastTake serial kind)
      = State.reportActs
          { d.refreshFrom arb with
            handoff := { (d.refreshFrom arb).handoff with down := (d.refreshFrom arb).handoff.down.paced head last } }
          last := by
  unfold paceReport at report
  unfold State.paceArrives
  dsimp only
  rw [report, if_neg (State.upstream_iff.not.mpr (by omega)), if_pos (State.downstream_iff.mpr down)]
  dsimp only
  rw [Neighbour.pace_eq_paced]

end

/-- A PACE that recovers no take (R82). -/
theorem State.reportActs_ignored (w : State) {last : Option TakeRef}
    (h : ∀ t, last = some t → t.serial = 0#16 ∨ ∀ q ∈ w.zone.queue, ¬ (q.kind = t.kind ∧ q.serial = t.serial)) :
    w.reportActs last = w := by
  unfold State.reportActs
  cases last with
  | none => rfl
  | some t =>
    dsimp only
    split_ifs with zero
    · rfl
    · rw [splitFirst_none.mpr (by simpa using (h t rfl).resolve_left zero)]

/-- A take recovered by report, with room for its actions (R82). -/
theorem State.reportActs_found (w : State) {serial : Serial} {ahead behind : List FeatureRecord} {r : FeatureRecord}
    (named : serial ≠ 0#16) (stands : w.zone.queue = ahead ++ r :: behind) (found : r.serial = serial)
    (others : ∀ q ∈ ahead, ¬ (q.kind = r.kind ∧ q.serial = serial))
    (room : w.port.actions.length + ahead.length + 1 ≤ 16) :
    w.reportActs (some { serial := serial, kind := r.kind })
      = (w.leaving behind (r.state == .travelling)
          (ahead.map (handed w.travel.z 3#2 false)
            ++ [handed w.travel.z 3#2 (r.state == .travelling) r])).formContributions threadLine := by
  unfold State.reportActs
  dsimp only
  rw [if_neg named, stands, splitFirst_append (by simpa using found) (by simpa using others)]
  exact w.countEarly_remove ahead r behind .reported .reported room

/-- The refresh leaves the count of discarded frames alone (R80). -/
theorem State.refreshed_discarded (s : State) (arb : Arbitration) (now : Nat) :
    (s.refreshed arb now).discarded = s.handoff.discarded := by
  unfold State.refreshed
  dsimp only
  split_ifs <;> rfl

/-- Settles O52: the record is refreshed and updated, and the downstream neighbour's report is acted on. -/
theorem paceResult : Obligations.PaceResult := by
  intro dt arb head serial kind s reading operating other d h c back up down named usable counter updated
  have run := exec_paceReceived dt head serial kind reading operating other
  have refresh (waits : s.port.actions.length < 16) :
      d.refreshFrom arb = { d with handoff := h, port := s.port.posted back } :=
    d.refreshFrom_room arb operating waits
  refine ⟨fun neighbour unusable waits => ?_, fun last absent present fit => ⟨fun above waits => ?_, fun below room => ?_⟩⟩
  · have discards := State.paceArrives_unusable (d := d) neighbour (paceReport_unusable serial unusable)
    rw [run, discards, refresh waits, State.countDiscarded]
    dsimp only
    rw [s.refreshed_discarded arb d.now]
  · rw [run, State.paceArrives_up (by exact above) (paceReport_usable absent present fit), refresh waits]
    rfl
  · let w : State :=
      { d with handoff := { h with down := updated h.down last }, port := s.port.posted back }
    have reports : exec c s = .next (w.reportActs last) := by
      rw [run, State.paceArrives_down (by exact below) (paceReport_usable absent present fit), refresh (by omega)]
      rfl
    refine ⟨fun nothing => ?_, ?_⟩
    · refine reports.trans (congrArg _ (w.reportActs_ignored fun t report => ?_))
      obtain ⟨zero, -⟩ | ⟨k, rfl, -⟩ | ⟨unnamed, -⟩ := readLastTake_cases serial kind
      · exact absurd ((absent zero).symm.trans report) (by simp)
      · obtain rfl : { serial := serial, kind := k } = t := Option.some.inj ((present k rfl).symm.trans report)
        obtain zero | zero | missing := nothing
        · exact absurd zero (by cases k <;> decide)
        · exact .inl zero
        · exact .inr (fun q hq ⟨kinds, serials⟩ => missing q hq ⟨congrArg FeatureKind.code kinds, serials⟩)
      · exact absurd fit.2 unnamed
    · rintro ahead behind r stands real rfl found others early
      have spare : w.port.actions.length + ahead.length + 1 ≤ 16 := by
        have most : back.length ≤ 1 := s.returnActions_length arb
        have whole := congrArg List.length stands
        simp only [List.length_append, List.length_cons] at whole
        show (s.port.actions ++ back).length + ahead.length + 1 ≤ 16
        rw [List.length_append]
        omega
      have taken :=
        w.reportActs_found real stands found
          (fun q hq ⟨kinds, serials⟩ => others q hq ⟨congrArg FeatureKind.code kinds, serials⟩) spare
      rw [← present r.kind rfl] at taken
      obtain ⟨only, thread⟩ :=
        w.leaving_formed behind early (ahead.map (handed w.travel.z 3#2 false) ++ [handed w.travel.z 3#2 early r]) operating
      refine ⟨_, reports.trans (congrArg _ taken), ?_, thread.of_eq rfl rfl rfl rfl rfl rfl⟩
      generalize (w.leaving behind _ _).formContributions threadLine = u at only ⊢
      rw [only, List.append_assoc, ← s.port.posted_posted back]
      rfl

end Sys2Proof.Machine
end


section
/-!
The slip learner: a sample by the branches of R97 to R101, and the slip code by command (R102).
-/

namespace Sys2Proof.Machine

/-! ### The arithmetic of a sample -/

/-- The ratio code is the whole number that is nearest, a half upward (R98). -/
theorem ratioCode_eq_of_nearest {zoneLength roll q : Nat}
    (above : 2 * q * roll ≤ 2 * (zoneLength * 1024000 * 65536) + roll)
    (below : 2 * (zoneLength * 1024000 * 65536) + roll < 2 * (q + 1) * roll) : ratioCode zoneLength roll = q := by
  unfold ratioCode Config.tuPerMm
  exact Nat.div_eq_of_lt_le (by linarith) (by linarith)

/-- The band in the spec's words (R99). -/
theorem plausible_iff (m : Int) : plausible m = true ↔ -8192 ≤ m ∧ m ≤ 24576 := decide_eq_true_iff

/-- The clamp, side by side (R99). -/
theorem clampSlip_eq (m : Int) : clampSlip m = if m < 0 then 0 else if 16384 < m then 16384 else m := by
  unfold clampSlip
  split_ifs <;> omega

/-- The step is the whole number that is nearest to Δ × g ÷ 16, a half away from zero, on the side of Δ (R100). -/
theorem filterStep_eq_of_nearest {delta step : Int} {gain : Nat}
    (above : 2 * (16 * step.natAbs) ≤ 2 * (delta.natAbs * gain) + 16)
    (below : 2 * (delta.natAbs * gain) + 16 < 2 * (16 * (step.natAbs + 1)))
    (rises : 0 < step → 0 < delta) (falls : step < 0 → delta < 0) : filterStep delta gain = step := by
  have size : (2 * (delta.natAbs * gain) + 16) / 32 = step.natAbs := by omega
  rw [filterStep, size]
  obtain down | rfl | up := lt_trichotomy delta 0
  · rw [Int.sign_eq_neg_one_of_neg down]
    omega
  · rw [Int.sign_zero]
    omega
  · rw [Int.sign_eq_one_of_pos up]
    omega

/-- The code after a step stands between the old code and the clamped measured slip (R100). -/
theorem add_sampleStep_between (m : Int) (code : Nat) {gain : Nat} (most : gain ≤ 16) :
    min (code : Int) (clampSlip m) ≤ code + sampleStep m code gain
      ∧ code + sampleStep m code gain ≤ max (code : Int) (clampSlip m) := by
  obtain ⟨low, high⟩ := filterStep_within (clampSlip m - code) gain most
  unfold sampleStep
  omega

/-- No step takes the code below 0 (R99, R100). -/
theorem add_sampleStep_nonneg (m : Int) (code : Nat) {gain : Nat} (most : gain ≤ 16) :
    0 ≤ code + sampleStep m code gain := by
  have clamped : 0 ≤ clampSlip m := le_max_left _ _
  have low := (add_sampleStep_between m code most).1
  omega

/-! ### The branches of a sample -/

variable {l : SlipLearner} {zoneLength gain roll : Nat} {source : SampleSource} {serial : Serial}

/-- A roll travel of 0 is rejected (R97). -/
theorem SlipLearner.sample_zero :
    l.sample zoneLength gain source serial 0
      = { l with
          rejected := satInc16 l.rejected
          last := some
            { source := source, serial := serial, rollTravel := min 65535 (toMm 0), measured := none,
              outcome := .rejectedZero, step := 0, codeAfter := l.code } } := by
  unfold SlipLearner.sample
  exact if_pos rfl

/-- An implausible sample is rejected (R99). -/
theorem SlipLearner.sample_implausible (moved : 0 < roll)
    (outside : ¬ (-8192 ≤ measuredSlip zoneLength roll ∧ measuredSlip zoneLength roll ≤ 24576)) :
    l.sample zoneLength gain source serial roll
      = { l with
          rejected := satInc16 l.rejected
          last := some
            { source := source, serial := serial, rollTravel := min 65535 (toMm roll),
              measured := some (measuredSlip zoneLength roll), outcome := .rejectedBand, step := 0,
              codeAfter := l.code } } := by
  unfold SlipLearner.sample
  rw [if_neg moved.ne', if_neg (mt (plausible_iff _).mp outside)]

/-- A plausible sample moves the code by its step (R99, R100). -/
theorem SlipLearner.sample_plausible (moved : 0 < roll)
    (inside : -8192 ≤ measuredSlip zoneLength roll ∧ measuredSlip zoneLength roll ≤ 24576) :
    let m := measuredSlip zoneLength roll
    let u := l.sample zoneLength gain source serial roll
    u.code = (l.code + sampleStep m l.code gain).toNat
      ∧ u = { code := u.code
              samples := satInc16 l.samples
              rejected := l.rejected
              last := some
                { source := source, serial := serial, rollTravel := min 65535 (toMm roll), measured := some m,
                  outcome := if clampSlip m = m then .accepted else .clamped, step := sampleStep m l.code gain,
                  codeAfter := u.code } } := by
  unfold SlipLearner.sample
  rw [if_neg moved.ne', if_pos ((plausible_iff _).mpr inside)]
  exact ⟨rfl, rfl⟩

/-- Settles O49: the quotient and the step are the model's by their rounding, and each branch is the model's own. -/
theorem slipSampleRule : Obligations.SlipSampleRule := by
  intro l zoneLength gain roll source serial _ most u record
  refine ⟨?_, ?_⟩
  · rintro rfl
    exact SlipLearner.sample_zero
  intro q moved ⟨above, below⟩ m
  have measured : measuredSlip zoneLength roll = m := by
    rw [measuredSlip, ratioCode_eq_of_nearest above below]
  refine ⟨fun outside => ?_, ?_⟩
  · have rejected : u = _ := SlipLearner.sample_implausible moved (by rw [measured]; omega)
    rwa [measured] at rejected
  · intro low high clamped delta step ⟨least, greatest⟩ rises falls
    have clamp : clampSlip m = clamped := clampSlip_eq m
    have stepped : sampleStep m l.code gain = step := by
      rw [sampleStep, clamp]
      exact filterStep_eq_of_nearest least greatest rises falls
    have positive := add_sampleStep_nonneg m l.code most
    have between := add_sampleStep_between m l.code most
    obtain ⟨code, learner⟩ : u.code = _ ∧ u = _ :=
      SlipLearner.sample_plausible moved (by rw [measured]; exact ⟨low, high⟩)
    rw [measured, stepped] at code
    rw [measured, clamp, stepped] at learner
    rw [stepped] at positive between
    rw [clamp] at between
    have after : (u.code : Int) = l.code + step := by rw [code, Int.toNat_of_nonneg positive]
    exact ⟨after, learner, after ▸ between⟩

/-! ### SLIP -/

variable {s : State}

/-- SLIP in TRACKING and PARKED (R102). -/
theorem exec_slip (dt : Nat) (hi lo : Byte) (allowed : s.startup.station = .tracking ∨ s.startup.station = .parked) :
    exec (.slip dt [hi, lo]) s = .next ((s.elapse dt).setSlip (hi.toNat * 256 + lo.toNat)) := by
  rw [← word16_toNat]
  exact congrArg Host.Outcome.next (if_pos (by simpa using allowed))

/-- SLIP in the other station states (R102, R157). -/
theorem exec_slip_refused (dt : Nat) (hi lo : Byte)
    (refused : ¬ (s.startup.station = .tracking ∨ s.startup.station = .parked)) :
    exec (.slip dt [hi, lo]) s = .next (s.answered dt 14#8 .wrongState) := by
  rw [← State.elapse_answer]
  exact congrArg Host.Outcome.next (if_neg (by simpa using refused))

/-- A slip code within the range is written as it stands (R102). -/
theorem State.setSlip_within (s : State) (dt : Nat) {v : Nat} (within : v ≤ 16384) :
    (s.elapse dt).setSlip v = { s.answered dt 14#8 .done with slip := { s.slip with code := v } } := by
  rw [State.setSlip, Config.slipMax, if_pos within, Nat.min_eq_left within, ← State.elapse_answer]
  rfl

/-- A larger slip code is clamped (R102). -/
theorem State.setSlip_beyond (s : State) (dt : Nat) {v : Nat} (beyond : ¬ v ≤ 16384) :
    (s.elapse dt).setSlip v = { s.answered dt 14#8 .clamped with slip := { s.slip with code := 16384 } } := by
  rw [State.setSlip, Config.slipMax, if_neg beyond, Nat.min_eq_right (by omega), ← State.elapse_answer]
  rfl

/-- Settles O28: refused by the station state, or the value written as it stands or clamped. -/
theorem slipCommandResult : Obligations.SlipCommandResult := by
  intro dt hi lo s v
  split_ifs with allowed within
  · rw [exec_slip dt hi lo allowed, s.setSlip_within dt within]
  · rw [exec_slip dt hi lo allowed, s.setSlip_beyond dt within]
  · exact exec_slip_refused dt hi lo allowed

end Sys2Proof.Machine
end


section
/-!
The entry list by command (R105, R106).
-/

namespace Sys2Proof.Machine

variable {s : State}

/-! ### When the entry list is open -/

theorem State.entryListOpen_iff (s : State) :
    s.entryListOpen = true
      ↔ s.startup.straps.first = true ∧ (s.startup.station = .tracking ∨ s.startup.station = .parked) := by
  simp [State.entryListOpen]

theorem exec_announce (dt : Nat) (hi lo tag joined : Byte) (taken : s.entryListOpen = true) :
    exec (.announce dt [hi, lo, tag, joined]) s = .next ((s.elapse dt).announceBar (hi ++ lo) tag joined) :=
  congrArg Host.Outcome.next (if_pos taken)

theorem exec_announce_refused (dt : Nat) (hi lo tag joined : Byte) (closed : ¬ s.entryListOpen = true) :
    exec (.announce dt [hi, lo, tag, joined]) s = .next (s.answered dt 3#8 .wrongState) := by
  rw [← State.elapse_answer]
  exact congrArg Host.Outcome.next (if_neg closed)

theorem exec_withdraw (dt : Nat) (hi lo : Byte) (taken : s.entryListOpen = true) :
    exec (.withdraw dt [hi, lo]) s = .next ((s.elapse dt).withdrawBar (hi ++ lo)) :=
  congrArg Host.Outcome.next (if_pos taken)

theorem exec_withdraw_refused (dt : Nat) (hi lo : Byte) (closed : ¬ s.entryListOpen = true) :
    exec (.withdraw dt [hi, lo]) s = .next (s.answered dt 4#8 .wrongState) := by
  rw [← State.elapse_answer]
  exact congrArg Host.Outcome.next (if_neg closed)

/-! ### The list -/

/-- The answer to a command that changes the entry list and nothing else (R105, R106). -/
theorem State.withBars_answered (s : State) (dt : Nat) (l : List Bar) (code : Byte) (a : Answer) :
    ((s.elapse dt).withBars l).answer code a = { s.answered dt code a with entry := { bars := l } } := by
  rw [← State.elapse_answer]
  rfl

theorem any_serial_iff (l : List Bar) (serial : Serial) :
    l.any (fun b => b.serial == serial) = true ↔ ∃ b ∈ l, b.serial = serial := by
  simp

/-- Taking out the bar of a serial that stands once keeps the order of the rest (R106). -/
theorem filter_serial_split {ahead behind : List Bar} {b : Bar}
    (once : ((ahead ++ b :: behind).map Bar.serial).Nodup) :
    (ahead ++ b :: behind).filter (fun c => c.serial != b.serial) = ahead ++ behind := by
  have apart : b.serial ∉ (ahead ++ behind).map Bar.serial := by
    rw [List.map_append, List.map_cons] at once
    rw [List.map_append]
    exact (List.nodup_middle.mp once).notMem
  have keeps : (ahead ++ behind).filter (fun c => c.serial != b.serial) = ahead ++ behind :=
    List.filter_eq_self.mpr (fun c hc => bne_iff_ne.mpr (fun same => apart (same ▸ List.mem_map_of_mem hc)))
  rw [List.filter_append, List.filter_cons_of_neg (by simp), ← List.filter_append, keeps]

/-! ### ANNOUNCE -/

theorem joinedOfByte_flag {b : Byte} (flag : b = 0#8 ∨ b = 1#8) : joinedOfByte b = some (b == 1#8) := by
  rcases flag with rfl | rfl <;> decide

theorem joinedOfByte_other {b : Byte} (other : ¬ (b = 0#8 ∨ b = 1#8)) : joinedOfByte b = none := by
  obtain ⟨nonzero, nonone⟩ := not_or.mp other
  rw [joinedOfByte, if_neg nonzero, if_neg nonone]

/-- The serial 0 and a joined byte that is no flag fail the first check (R105). -/
theorem State.announceBar_bad (s : State) {serial : Serial} (tag : Byte) {joined : Byte}
    (bad : serial = 0#16 ∨ ¬ (joined = 0#8 ∨ joined = 1#8)) :
    s.announceBar serial tag joined = s.answer 3#8 .badValue := by
  unfold State.announceBar
  by_cases flag : joined = 0#8 ∨ joined = 1#8
  · rw [joinedOfByte_flag flag]
    exact if_pos (bad.resolve_right (not_not_intro flag))
  · rw [joinedOfByte_other flag]

/-- The checks that follow the first one (R105). -/
theorem State.announceBar_good (s : State) {serial : Serial} (tag : Byte) {joined : Byte}
    (good : ¬ (serial = 0#16 ∨ ¬ (joined = 0#8 ∨ joined = 1#8))) :
    s.announceBar serial tag joined
      = if ∃ b ∈ s.entry.bars, b.serial = serial then s.answer 3#8 .duplicate
        else if s.entry.bars.length < 4 then
          (s.withBars (s.entry.bars ++ [{ serial := serial, tag := tagOfByte tag, joined := joined == 1#8 }])).answer 3#8
            .done
        else s.answer 3#8 .full := by
  obtain ⟨nonzero, flag⟩ := not_or.mp good
  unfold State.announceBar
  rw [joinedOfByte_flag (not_not.mp flag)]
  exact (if_neg nonzero).trans (ite_congr (propext (any_serial_iff _ _)) (fun _ => rfl) (fun _ => rfl))

/-- Settles O7: the checks of R105 in their order. -/
theorem announceResult : Obligations.AnnounceResult := by
  intro dt hi lo tag joined s serial taken
  have opened : s.entryListOpen = true ↔ taken := s.entryListOpen_iff
  by_cases allowed : taken
  · rw [exec_announce dt hi lo tag joined (opened.mpr allowed), if_neg (not_not_intro allowed)]
    split_ifs with bad there full
    · rw [State.announceBar_bad _ tag bad, State.elapse_answer]
    all_goals rw [State.announceBar_good _ tag bad]
    · rw [if_pos (by exact there), State.elapse_answer]
    · rw [if_neg (by exact there), if_neg (by exact not_lt.mpr full), State.elapse_answer]
    · rw [if_neg (by exact there), if_pos (by exact not_le.mp full), State.withBars_answered]
      rfl
  · rw [if_pos allowed]
    exact exec_announce_refused dt hi lo tag joined (fun h => allowed (opened.mp h))

/-! ### WITHDRAW -/

/-- WITHDRAW of a serial that names a bar (R106). -/
theorem State.withdrawBar_good (s : State) {serial : Serial} (nonzero : serial ≠ 0#16) :
    s.withdrawBar serial
      = if ∃ b ∈ s.entry.bars, b.serial = serial then
          (s.withBars (s.entry.bars.filter (fun b => b.serial != serial))).answer 4#8 .done
        else s.answer 4#8 .notFound :=
  (if_neg nonzero).trans (ite_congr (propext (any_serial_iff _ _)) (fun _ => rfl) (fun _ => rfl))

/-- Settles O8: serials stand once, so the filter takes out the one bar of the serial. -/
theorem withdrawResult : Obligations.WithdrawResult := by
  intro dt hi lo s serial taken
  have opened : s.entryListOpen = true ↔ taken := s.entryListOpen_iff
  refine ⟨fun closed => exec_withdraw_refused dt hi lo (fun h => closed (opened.mp h)), fun h zero => ?_,
    fun h nonzero missing => ?_, fun h nonzero ahead behind b stands named once => ?_⟩
  all_goals rw [exec_withdraw dt hi lo (opened.mpr h)]
  · rw [← State.elapse_answer]
    exact congrArg Host.Outcome.next (if_pos zero)
  · have absent : ¬ ∃ b ∈ s.entry.bars, b.serial = serial := fun ⟨b, hb, same⟩ => missing b hb same
    rw [State.withdrawBar_good _ nonzero, if_neg (by exact absent), State.elapse_answer]
  · have there : ∃ b ∈ s.entry.bars, b.serial = serial := ⟨b, by simp [stands], named⟩
    have rest : s.entry.bars.filter (fun c => c.serial != serial) = ahead ++ behind := by
      rw [← named, stands]
      exact filter_serial_split (stands ▸ once)
    rw [State.withdrawBar_good _ nonzero, if_pos (by exact there), State.withBars_answered]
    exact congrArg (fun l => Host.Outcome.next { s.answered dt 4#8 .done with entry := { bars := l } }) rest

end Sys2Proof.Machine
end


section
/-!
The own contributions by signal input and by host command, in every station state, and the other pins (R117 to R119, R121,
R122, R131, R132, R142, R147).
-/

namespace Sys2Proof.Machine

variable {s : State}

/-! ### Contributions formed afresh in every station state -/

/-- Before PLACED the contributions are written without any frame (R117, R119). -/
theorem State.formContributions_before (m : LineMask) (awake : s.startup.station ≠ .stopped)
    (waits : ¬ s.startup.station.operating = true) :
    s.formContributions m
      = (s.mapLines (m &&& s.sources &&& ~~~s.contributions) (TrainLine.withContribution true)).mapLines
          (m &&& ~~~s.sources &&& s.contributions) (TrainLine.withContribution false) :=
  (if_neg awake).trans (if_neg waits)

/-- Before PLACED a concerned line contributes as its source says, and nothing else of it changes (R117, R119). -/
theorem State.view_formContributions_before (m : LineMask) (awake : s.startup.station ≠ .stopped)
    (waits : ¬ s.startup.station.operating = true) (n : Fin 8) :
    (s.formContributions m).view n
      = if m.getLsbD n = true then
          { s.view n with line := { (s.view n).line with contribution := s.sources.getLsbD n } }
        else s.view n := by
  have masks := s.masks_view n
  simp only [State.formContributions_before m awake waits, State.view_mapLines, BitVec.getLsbD_and, BitVec.getLsbD_not,
    n.isLt, decide_true, Bool.true_and, masks, TrainLine.withContribution]
  cases m.getLsbD n.val
  · simp
  · obtain ⟨⟨copy, contribution, ask, windowEnd, foreignAsk⟩, raise, veto, asks, drop⟩ := s.view n
    cases s.sources.getLsbD n.val <;> cases contribution <;> rfl

/-- Contributions formed afresh, line by line: frozen in STOPPED, with the exchange in PLACED, TRACKING and PARKED, and without
any frame before (R117, R119, R121, R122). -/
theorem State.view_formContributions_all (s : State) (m : LineMask) (n : Fin 8) :
    (s.formContributions m).view n
      = if m.getLsbD n = false ∨ s.startup.station = .stopped then s.view n
        else if s.startup.station.operating then (s.view n).formed (s.sources.getLsbD n)
        else { s.view n with line := { (s.view n).line with contribution := s.sources.getLsbD n } } := by
  by_cases stopped : s.startup.station = .stopped
  · rw [if_pos (.inr stopped), State.formContributions_stopped m stopped]
  by_cases operating : s.startup.station.operating = true
  · rw [s.view_formContributions m operating n, if_pos operating]
    cases m.getLsbD n.val <;> simp [stopped]
  · rw [State.view_formContributions_before m stopped operating n, if_neg operating]
    cases m.getLsbD n.val <;> simp [stopped]

/-- Contributions formed afresh in any station state keep or take the filling times of the slots (R142). -/
theorem State.slotsTimed_formContributions (s : State) (m : LineMask) : s.slotsTimed (s.formContributions m) := by
  by_cases stopped : s.startup.station = .stopped
  · rw [State.formContributions_stopped m stopped]
    exact fun _ => Slot.timed_refl _ _
  by_cases operating : s.startup.station.operating = true
  · exact (s.formContributions_linesFormed m operating).2.1
  · rw [State.formContributions_before m stopped operating]
    exact fun _ => Slot.timed_refl _ _

/-! ### Pins -/

/-- An input that stands at its level makes no event (R119; log entry 4). -/
theorem exec_siginChange_stands (dt : Nat) {input : SignalInput} {level : Bool} (stands : s.pins.sigin input = level) :
    exec (.siginChange dt input level) s = .next (s.elapse dt) :=
  congrArg Host.Outcome.next (if_pos stands)

theorem exec_siginChange (dt : Nat) {input : SignalInput} {level : Bool} (edge : s.pins.sigin input ≠ level) :
    exec (.siginChange dt input level) s
      = .next
          (State.formContributions { s.elapse dt with pins := s.pins.withSigin input level }
            (s.startup.config.sigin input).lines) :=
  congrArg Host.Outcome.next (if_neg edge)

theorem LineMask.ne_zero_iff {a : LineMask} : a ≠ 0#8 ↔ ∃ n : Fin 8, a.getLsbD n = true := by
  refine ⟨fun some => ?_, fun ⟨n, hn⟩ zero => ?_⟩
  · by_contra none
    exact some (LineMask.ext_fin fun n => by simpa using not_exists.mp none n)
  · rw [zero, BitVec.getLsbD_zero] at hn
    exact Bool.noConfusion hn

/-- A signal output shows whether a line of its set is high (R131). -/
theorem PinMap.level_copies (map : PinMap) (s : State) :
    map.level s.copies
      = (decide (∃ n : Fin 8, map.lines.getLsbD n = true ∧ (s.lines.line.get n).copy = true) != map.inverted) := by
  have high : (s.copies &&& map.lines != 0#8)
      = decide (∃ n : Fin 8, map.lines.getLsbD n = true ∧ (s.lines.line.get n).copy = true) := by
    rw [Bool.eq_iff_iff, bne_iff_ne, LineMask.ne_zero_iff, decide_eq_true_iff]
    refine exists_congr fun n => ?_
    rw [BitVec.getLsbD_and, (s.masks_view n).1, Bool.and_eq_true, and_comm]
    rfl
  rw [PinMap.level, high]

/-- Settles O16: SIGIN_CHANGE is forming afresh the contributions of the mapped lines; each output reads its map. -/
theorem pinEvents : Obligations.PinEvents := by
  unfold Obligations.PinEvents
  intro dt s
  refine ⟨fun level => rfl, fun stopped => ?_, fun e runs => ?_, fun input level stands => exec_siginChange_stands dt stands,
    fun input level edge => ?_, fun k => ?_⟩
  · simp [exec, execStrobeEnd, stopped]
  · simp [exec, execStrobeEnd, runs, State.reach]
  · intro map pins
    have moved : s.pins.withSigin input level = pins := rfl
    have mapped : s.startup.config.sigin input = map := rfl
    have run := exec_siginChange dt edge
    rw [moved, mapped] at run
    let d : State := { s.elapse dt with pins := pins }
    refine ⟨d.formContributions map.lines, run, d.formContributions_onlyLines _, fun n => ?_,
      d.slotsTimed_formContributions _⟩
    rw [State.formContributions_sources]
    exact d.view_formContributions_all map.lines n
  · match k with
    | 0 => exact PinMap.level_copies _ s
    | 1 => exact PinMap.level_copies _ s
    | 2 => exact PinMap.level_copies _ s
    | 3 => exact PinMap.level_copies _ s

/-! ### Host flags -/

/-- The answer touches neither the lines nor their slots (R156). -/
theorem State.onlyLines.answer {d t : State} (only : d.onlyLines t) (code : Byte) (a : Answer) :
    (d.answer code a).onlyLines (t.answer code a) := by
  unfold State.onlyLines at only ⊢
  rw [only]
  rfl

/-- The host TRIP flag written (R118). -/
def State.tripFlagged (s : State) (dt : Nat) (flag : Bool) : State :=
  { s.elapse dt with lines := { s.lines with hostTrip := flag } }

/-- The SIGNAL flags written (R118). -/
def State.signalsFlagged (s : State) (dt : Nat) (set clear : Byte) : State :=
  { s.elapse dt with
    lines := { s.lines with signals := (s.lines.signals ||| (set &&& 252#8)) &&& ~~~(clear &&& 252#8) } }

theorem State.tripFlagged_answer (s : State) (dt : Nat) (flag : Bool) (code : Byte) (a : Answer) :
    (s.tripFlagged dt flag).answer code a = { s.answered dt code a with lines := { s.lines with hostTrip := flag } } := by
  rw [← State.elapse_answer]
  rfl

theorem State.signalsFlagged_answer (s : State) (dt : Nat) (set clear : Byte) (code : Byte) (a : Answer) :
    (s.signalsFlagged dt set clear).answer code a
      = { s.answered dt code a with lines := (s.signalsFlagged dt set clear).lines } := by
  rw [← State.elapse_answer]
  rfl

theorem exec_hostTrip (dt : Nat) (flag : Bool) (operating : s.startup.station.operating = true) :
    exec (if flag then .trip dt [] else .clearTrip dt []) s
      = .next (((s.tripFlagged dt flag).formContributions tripLine).answer (if flag then 7#8 else 8#8) .done) := by
  cases flag
  · exact congrArg Host.Outcome.next (if_pos operating)
  · exact congrArg Host.Outcome.next (if_pos operating)

theorem exec_signal (dt : Nat) (set clear : Byte) (operating : s.startup.station.operating = true) :
    exec (.signal dt [set, clear]) s = .next ((s.elapse dt).signal set clear) :=
  congrArg Host.Outcome.next (if_pos operating)

/-- A line in both masks is refused (R118). -/
theorem State.signal_clash {set clear : Byte} (clash : set &&& clear &&& 252#8 ≠ 0#8) :
    s.signal set clear = s.answer 9#8 .badValue := if_pos clash

theorem State.signal_apart (dt : Nat) {set clear : Byte} (apart : set &&& clear &&& 252#8 = 0#8) :
    (s.elapse dt).signal set clear
      = ((s.signalsFlagged dt set clear).formContributions ((set ||| clear) &&& 252#8)).answer 9#8 .done :=
  if_neg (not_not_intro apart)

theorem tripLine_getLsbD (n : Fin 8) : tripLine.getLsbD n = true ↔ n = 0 := by
  revert n
  decide

/-- Settles O27: each command writes its flags, answers, and forms the contributions of its lines afresh. -/
theorem hostFlagsResult : Obligations.HostFlagsResult := by
  intro dt s operating
  refine ⟨fun flag => ?_, fun set clear => ⟨fun clash => ?_, fun apart => ?_⟩⟩
  · have formed := (s.tripFlagged dt flag).formContributions_linesFormed tripLine operating
    have only := ((s.tripFlagged dt flag).formContributions_onlyLines tripLine).answer (if flag then 7#8 else 8#8) .done
    rw [State.tripFlagged_answer] at only
    refine ⟨_, exec_hostTrip dt flag operating, only, fun n => (formed.1 n).trans ?_, formed.2.1⟩
    by_cases trip : n = 0
    · rw [if_pos ((tripLine_getLsbD n).mpr trip), if_pos trip, trip]
      rfl
    · rw [if_neg (mt (tripLine_getLsbD n).mp trip), if_neg trip]
      rfl
  · rw [exec_signal dt set clear operating, State.signal_clash clash, State.elapse_answer]
  · have formed := (s.signalsFlagged dt set clear).formContributions_linesFormed ((set ||| clear) &&& 252#8) operating
    have only :=
      ((s.signalsFlagged dt set clear).formContributions_onlyLines ((set ||| clear) &&& 252#8)).answer 9#8 .done
    rw [State.signalsFlagged_answer] at only
    rw [exec_signal dt set clear operating, State.signal_apart dt apart]
    exact ⟨_, rfl, only, formed.1, formed.2.1⟩

end Sys2Proof.Machine
end


section
/-!
Attempts that fail (R120, R135, R136, R142, R144, R145, R148): what becomes of the frame that was in flight.
-/

namespace Sys2Proof.Machine

variable {s : State}

/-! ### Lines that return to their slot -/

/-- The lines of an unsent frame that still call for it, line by line (R120). -/
theorem State.stillCalls_getLsbD (s : State) (kind : LineKind) (m : LineMask) (n : Fin 8) :
    (s.stillCalls kind m).getLsbD n = (m.getLsbD n && (s.view n).calls kind) := by
  have masks := s.masks_view n
  cases kind <;>
    simp only [State.stillCalls, BitVec.getLsbD_and, BitVec.getLsbD_not, n.isLt, decide_true, Bool.true_and, masks,
      LineView.calls, Bool.and_assoc]

/-- The lines of an unsent frame, line by line (R120). -/
theorem State.view_returnLines (s : State) (kind : LineKind) (m : LineMask) (filledAt : Nat) (n : Fin 8) :
    (s.returnLines kind m filledAt).view n = if m.getLsbD n = true then (s.view n).returned kind else s.view n := by
  have back : (s.returnLines kind m filledAt).view n = (s.view n).merged kind ((s.stillCalls kind m).getLsbD n) := by
    cases kind <;>
      simp only [State.returnLines, State.view, State.modifySlot_fields, Slots.modify, Slot.giveBack_mask,
        BitVec.getLsbD_or, LineView.merged]
  rw [back, State.stillCalls_getLsbD]
  cases m.getLsbD n.val
  · cases kind <;> simp [LineView.merged]
  · cases kind <;> rfl

/-- The slots after lines have returned (R120). -/
theorem State.returnLines_slots (s : State) (kind : LineKind) (m : LineMask) (filledAt : Nat) :
    (s.returnLines kind m filledAt).mill.slots
      = s.mill.slots.modify kind (Slot.giveBack filledAt (s.stillCalls kind m)) := rfl

/-- A slot to which no line returns stands (R120). -/
theorem Slot.giveBack_none (filledAt : Nat) (slot : Slot) : slot.giveBack filledAt 0#8 = slot := if_pos rfl

/-- The filling time of a slot to which lines return (R142). -/
theorem Slot.giveBack_filledAt (filledAt : Nat) {m : LineMask} (slot : Slot) (some : m ≠ 0#8) :
    (slot.giveBack filledAt m).filledAt = if slot.mask = 0#8 then filledAt else min slot.filledAt filledAt := by
  unfold Slot.giveBack
  rw [if_neg some]
  split_ifs <;> rfl

theorem Slots.modify_eq_self (slots : Slots) (kind : LineKind) {f : Slot → Slot} (h : ∀ slot, f slot = slot) :
    slots.modify kind f = slots := by
  cases kind <;> simp only [Slots.modify, h]

/-- An unsent train-line frame: its lines return while they call for it, with their filling time (R120, R142). -/
theorem State.returnLines_linesReturned (s : State) (kind : LineKind) (m : LineMask) (filledAt : Nat) :
    s.linesReturned (s.returnLines kind m filledAt) kind m filledAt := by
  refine ⟨s.view_returnLines kind m filledAt, fun other ne => ?_, fun none => ?_, fun ⟨n, named, calls⟩ => ?_⟩
  · rw [State.returnLines_slots, Slots.get_modify, if_neg ne]
  · have nobody : s.stillCalls kind m = 0#8 := LineMask.ext_fin fun n => by
      rw [State.stillCalls_getLsbD, BitVec.getLsbD_zero]
      cases named : m.getLsbD n.val
      · rfl
      · rw [none n named, Bool.true_and]
    rw [State.returnLines_slots, nobody]
    exact Slots.modify_eq_self _ kind (Slot.giveBack_none filledAt)
  · have some : s.stillCalls kind m ≠ 0#8 :=
      LineMask.ne_zero_iff.mpr ⟨n, by rw [State.stillCalls_getLsbD, named, calls, Bool.true_and]⟩
    rw [State.returnLines_slots, Slots.get_modify, if_pos rfl, Slot.giveBack_filledAt filledAt _ some]

/-- Lines that return touch the slots alone (R120). -/
theorem State.returnLines_onlyLines (s : State) (kind : LineKind) (m : LineMask) (filledAt : Nat) :
    s.onlyLines (s.returnLines kind m filledAt) := rfl

/-! ### What the attempt can show -/

theorem canLose_iff (wire : List Bool) : canLose wire = true ↔ true ∈ (wire.drop 1).take 4 := by
  simp [canLose]

/-- The bits at which a mismatch is a bit error (R136). -/
theorem isBitError_iff (wire : List Bool) (bit : Nat) :
    isBitError wire bit = true
      ↔ bit < wire.length ∧ ¬ (wire.getD bit false = true ∧ 1 ≤ bit ∧ bit ≤ 4) := by
  unfold isBitError
  rw [List.getD_eq_getElem?_getD]
  by_cases driven : bit < wire.length
  · rw [List.getElem?_eq_getElem driven]
    cases wire[bit]
    · simp [driven]
    · simp [driven, or_iff_not_imp_left, Nat.one_le_iff_ne_zero]
  · simp [driven]

/-- The idle count that the bits read have left at a bit that the attempt drives (R135; log entry 24). -/
theorem idleAfterBitError_eq {wire : List Bool} {bit : Nat} (driven : bit < wire.length) :
    idleAfterBitError wire bit
      = if wire.getD bit false = true then 0
        else if bit = 0 then 11
        else min 11 (((wire.take bit).reverse.takeWhile id).length + 1) := by
  have level : wire.getD bit true = wire.getD bit false := by simp [driven]
  unfold idleAfterBitError
  rw [level]
  rfl

/-! ### The ends of an attempt -/

/-- Without a recessive arbitration bit no arbitration is lost (R136; log entry 4). -/
theorem exec_arbitrationLost_none (dt : Nat) {f : Flight} (flying : s.mill.flight = some f)
    (never : ¬ canLose f.wire = true) : exec (.arbitrationLost dt) s = .next (s.elapse dt) := by
  simp [exec, execArbitrationLost, flying, never]

theorem exec_arbitrationLost (dt : Nat) {f : Flight} (flying : s.mill.flight = some f) (lost : canLose f.wire = true) :
    exec (.arbitrationLost dt) s = .next (((s.elapse dt).withReceiver .receiving 0).flightLost f) := by
  simp [exec, execArbitrationLost, flying, lost]

/-- A bit that the attempt does not drive, or at which a mismatch is an arbitration loss, makes no bit error (R136; log
entry 4). -/
theorem exec_bitError_none (dt : Nat) {bit : Nat} {f : Flight} (flying : s.mill.flight = some f)
    (never : ¬ isBitError f.wire bit = true) : exec (.bitError dt bit) s = .next (s.elapse dt) := by
  simp [exec, execBitError, flying, never]

/-- The state after a bit error, before the frame is dealt with: `dt` µs on, the error counted and the receiver in HUNT (R136,
R145). -/
def State.hunting (s : State) (dt idle : Nat) : State :=
  { s with
    now := s.now + dt
    mill := { s.mill with rx := .hunt, idle := idle, txErrors := satInc16 s.mill.txErrors } }

theorem exec_bitError (dt : Nat) {bit : Nat} {f : Flight} (flying : s.mill.flight = some f)
    (error : isBitError f.wire bit = true) :
    exec (.bitError dt bit) s = .next ((s.hunting dt (idleAfterBitError f.wire bit)).flightFailed f) := by
  simp [exec, execBitError, flying, error, State.hunting, State.withReceiver, State.elapse]

/-! ### The frame that was in flight -/

theorem State.flightLost_place {f : Flight} {body : FrameBody} (source : f.source = .place body) :
    s.flightLost f = s.keepFlying := by
  unfold State.flightLost
  rw [source]

theorem State.flightLost_slot {f : Flight} {kind : LineKind} {m : LineMask} {filledAt : Nat}
    (source : f.source = .slot kind m filledAt) : s.flightLost f = s.endFlight.returnLines kind m filledAt := by
  unfold State.flightLost
  rw [source]

theorem State.flightFailed_slot {f : Flight} {kind : LineKind} {m : LineMask} {filledAt : Nat}
    (source : f.source = .slot kind m filledAt) : s.flightFailed f = s.endFlight.returnLines kind m filledAt := by
  unfold State.flightFailed
  rw [source]

theorem State.flightFailed_place {f : Flight} {body : FrameBody} (source : f.source = .place body) :
    s.flightFailed f
      = if body.isClaim = true ∧ s.startup.station = .claiming then
          s.dropFlying.enqueue s.dropFlying.claimBody none
        else s.dropFlying := by
  unfold State.flightFailed
  rw [source]

/-- Settles O43: what the attempt can show, and then what becomes of a frame of a place and of one of a slot. -/
theorem attemptsThatFail : Obligations.AttemptsThatFail := by
  intro dt s f flying recessiveIn lost error failed
  refine ⟨fun never => ?_, fun recessive => ⟨fun body source => ?_, fun kind m filledAt source => ?_⟩,
    fun bit => ⟨fun never => ?_, fun err => ?_⟩⟩
  · exact exec_arbitrationLost_none dt flying (mt (canLose_iff _).mp never)
  · rw [exec_arbitrationLost dt flying ((canLose_iff _).mpr recessive), State.flightLost_place source]
    rfl
  · rw [exec_arbitrationLost dt flying ((canLose_iff _).mpr recessive), State.flightLost_slot source]
    exact ⟨_, rfl, State.returnLines_onlyLines _ _ _ _, rfl, State.returnLines_linesReturned _ _ _ _⟩
  · exact exec_bitError_none dt flying (mt (isBitError_iff _ _).mp never)
  · intro idle
    have run : exec (.bitError dt bit) s = .next ((s.hunting dt idle).flightFailed f) := by
      rw [exec_bitError dt flying ((isBitError_iff _ _).mpr err), idleAfterBitError_eq err.1]
    rw [run]
    refine ⟨fun body source => ⟨fun discarded => ?_, fun claim claiming room => ?_⟩, fun kind m filledAt source => ?_⟩
    · have gone : ¬ (body.isClaim = true ∧ (s.hunting dt idle).startup.station = .claiming) := by
        rintro ⟨claim, claiming⟩
        obtain other | elsewhere := discarded
        · exact absurd claim (by simp [other])
        · exact elsewhere claiming
      rw [State.flightFailed_place source, if_neg gone]
      rfl
    · rw [State.flightFailed_place source, if_pos ⟨claim, by exact claiming⟩, State.enqueue_room _ _ _ rfl (by exact room)]
      rfl
    · rw [State.flightFailed_slot source]
      exact ⟨_, rfl, State.returnLines_onlyLines _ _ _ _, rfl, State.returnLines_linesReturned _ _ _ _⟩

end Sys2Proof.Machine
end


section
/-!
A RAISE, VETO, ASK or DROP of another station (R80, R125, R126, R127, R129, R141, R142).
-/

namespace Sys2Proof.Machine

variable {s : State}

/-! ### The actions of TL0 -/

theorem saturate16_position (arb : Arbitration) : saturate16 arb.position = BitVec.ofNat 16 arb.position := by
  have most : min arb.position 65535 = arb.position := by
    have := arb.station.isLt
    unfold Arbitration.position
    omega
  rw [saturate16, most]

/-- The TRIP_ON of copies that go high (R129). -/
def State.tripOnActions (s : State) (m : LineMask) (value : BitVec 16) : List Action :=
  if m.getLsbD 0 = true ∧ s.lines.line.l0.copy = false then [{ kind := .tripOn, value := value }] else []

/-- The TRIP_OFF of copies that go low (R129). -/
def State.tripOffActions (s : State) (m : LineMask) (value : BitVec 16) : List Action :=
  if m.getLsbD 0 = true ∧ s.lines.line.l0.copy = true then [{ kind := .tripOff, value := value }] else []

theorem State.copiesHigh_room (s : State) (m : LineMask) (position : Nat) (room : s.port.actions.length < 16) :
    s.copiesHigh m position
      = { s.mapLines m (TrainLine.withCopy true) with
          port := s.port.posted (s.tripOnActions m (saturate16 position)) } := by
  unfold State.copiesHigh State.tripOnActions
  dsimp only
  split_ifs
  · exact State.post_room _ _ room
  · rw [Port.posted_nil]
    rfl

theorem State.copiesLow_room (s : State) (m : LineMask) (position : Nat) (room : s.port.actions.length < 16) :
    s.copiesLow m position
      = { s.mapLines m (TrainLine.withCopy false) with
          port := s.port.posted (s.tripOffActions m (saturate16 position)) } := by
  unfold State.copiesLow State.tripOffActions
  dsimp only
  split_ifs
  · exact State.post_room _ _ room
  · rw [Port.posted_nil]
    rfl

/-! ### What a received frame touches -/

theorem State.lineHeld_onlyLines (s : State) (m : LineMask) (position : Nat) (room : s.port.actions.length < 16) :
    State.onlyLines { s with port := s.port.posted (s.tripOnActions m (saturate16 position)) } (s.lineHeld m position) := by
  have port : (s.lineHeld m position).port = s.port.posted (s.tripOnActions m (saturate16 position)) := by
    simp [State.lineHeld, State.copiesHigh_room s m position room]
  rw [State.onlyLines_iff, MillLine.eq_iff, port]
  simp

theorem State.lineAsked_onlyLines (s : State) (m : LineMask) : s.onlyLines (s.lineAsked m) := rfl

theorem State.lineDropped_onlyLines (s : State) (m : LineMask) (position : Nat) (room : s.port.actions.length < 16) :
    State.onlyLines { s with port := s.port.posted (s.tripOffActions m (saturate16 position)) }
      (s.lineDropped m position) := by
  have port : (s.lineDropped m position).port = s.port.posted (s.tripOffActions m (saturate16 position)) := by
    simp [State.lineDropped, State.copiesLow_room s m position room]
  rw [State.onlyLines_iff, MillLine.eq_iff, port]
  simp

/-- A received ASK, line by line (R126). -/
theorem State.view_lineAsked (s : State) (m : LineMask) (n : Fin 8) :
    (s.lineAsked m).view n = if m.getLsbD n = true then (s.view n).asked else s.view n := by
  have masks := s.masks_view n
  simp only [State.lineAsked, State.view_merge, State.view_mapLines, BitVec.getLsbD_and, masks, LineView.merged,
    LineView.asked, TrainLine.withForeignAsk]
  cases m.getLsbD n.val <;> simp

/-! ### Filling times -/

/-- The slots after a received RAISE or VETO (R125). -/
theorem State.lineHeld_slots (s : State) (m : LineMask) (position : Nat) :
    ∃ asking dropping : LineMask,
      (s.lineHeld m position).mill.slots
        = { raise := s.mill.slots.raise.remove m
            veto := s.mill.slots.veto.remove m
            ask := s.mill.slots.ask.remove asking
            drop := s.mill.slots.drop.remove dropping } := by
  let u := (s.copiesHigh m position).mapLines m (TrainLine.withForeignAsk false)
  refine ⟨m &&& u.askPhase .asking, m &&& u.askPhase .dropping, ?_⟩
  simp [State.lineHeld, State.endAsks, Slots.modify, State.askPhase, u]

/-- The slots after a received DROP (R127). -/
theorem State.lineDropped_slots (s : State) (m : LineMask) (position : Nat) :
    (s.lineDropped m position).mill.slots
      = { raise := s.mill.slots.raise.merge s.now (m &&& s.contributions)
          veto := s.mill.slots.veto.remove m
          ask := s.mill.slots.ask.remove m
          drop := s.mill.slots.drop.remove m } := by
  simp [State.lineDropped, Slots.modify]

theorem State.slotsTimed_lineHeld (s : State) (m : LineMask) (position : Nat) : s.slotsTimed (s.lineHeld m position) := by
  obtain ⟨asking, dropping, slots⟩ := s.lineHeld_slots m position
  intro kind
  rw [slots]
  cases kind <;> exact Slot.timed_remove _ _ _

theorem State.slotsTimed_lineAsked (s : State) (m : LineMask) : s.slotsTimed (s.lineAsked m) :=
  State.slotsTimed_merge (s.mapLines m (TrainLine.withForeignAsk true)) .veto (m &&& s.contributions)

theorem State.slotsTimed_lineDropped (s : State) (m : LineMask) (position : Nat) :
    s.slotsTimed (s.lineDropped m position) := by
  intro kind
  rw [State.lineDropped_slots, (s.lineDropped_frame m position).1]
  cases kind with
  | raise => exact Slot.timed_merge _ _ _
  | veto | ask | drop => exact Slot.timed_remove _ _ _

/-! ### The frame of each kind -/

/-- What a received train-line frame of each kind does (R125, R126, R127). -/
def State.lineArrives (s : State) (kind : LineKind) (m : LineMask) (position : Nat) : State :=
  match kind with
  | .raise => s.lineHeld m position
  | .veto => s.lineHeld m position
  | .ask => s.lineAsked m
  | .drop => s.lineDropped m position

/-- What a received train-line frame of each kind does to a line of its mask (R125, R126, R127). -/
def LineView.arrives (kind : LineKind) (v : LineView) : LineView :=
  match kind with
  | .raise => v.held
  | .veto => v.held
  | .ask => v.asked
  | .drop => v.dropped

/-- The action that a received train-line frame of each kind posts for TL0 (R129). -/
def State.tripActions (s : State) (kind : LineKind) (m : LineMask) (value : BitVec 16) : List Action :=
  match kind with
  | .raise => s.tripOnActions m value
  | .veto => s.tripOnActions m value
  | .ask => []
  | .drop => s.tripOffActions m value

theorem State.tripActions_length (s : State) (kind : LineKind) (m : LineMask) (value : BitVec 16) :
    (s.tripActions kind m value).length ≤ 1 := by
  have on : (s.tripOnActions m value).length ≤ 1 := by
    unfold State.tripOnActions
    split_ifs <;> simp
  have off : (s.tripOffActions m value).length ≤ 1 := by
    unfold State.tripOffActions
    split_ifs <;> simp
  cases kind with
  | raise | veto => exact on
  | ask => exact Nat.zero_le 1
  | drop => exact off

theorem State.lineArrives_onlyLines (s : State) (kind : LineKind) (m : LineMask) (position : Nat)
    (room : s.port.actions.length < 16) :
    State.onlyLines { s with port := s.port.posted (s.tripActions kind m (saturate16 position)) }
      (s.lineArrives kind m position) := by
  cases kind with
  | raise | veto => exact s.lineHeld_onlyLines m position room
  | ask =>
    rw [State.tripActions, Port.posted_nil]
    exact s.lineAsked_onlyLines m
  | drop => exact s.lineDropped_onlyLines m position room

theorem State.view_lineArrives (s : State) (kind : LineKind) (m : LineMask) (position : Nat) (n : Fin 8) :
    (s.lineArrives kind m position).view n
      = if m.getLsbD n = true then (s.view n).arrives kind else s.view n := by
  cases kind with
  | raise | veto => exact s.view_lineHeld m position n
  | ask => exact s.view_lineAsked m n
  | drop => exact s.view_lineDropped m position n

theorem State.slotsTimed_lineArrives (s : State) (kind : LineKind) (m : LineMask) (position : Nat) :
    s.slotsTimed (s.lineArrives kind m position) := by
  cases kind with
  | raise | veto => exact s.slotsTimed_lineHeld m position
  | ask => exact s.slotsTimed_lineAsked m
  | drop => exact s.slotsTimed_lineDropped m position

/-! ### The refresh behind a train-line frame -/

/-- The refresh reads the hand-off unit, the start-up unit and the time, which a train-line frame leaves (R80, R141). -/
theorem State.refreshFrom_onlyLines {d v : State} (arb : Arbitration) (as : List Action)
    (only : State.onlyLines { d with port := d.port.posted as } v) (operating : d.startup.station.operating = true)
    (room : d.port.actions.length + as.length < 16) :
    v.refreshFrom arb
      = { v with handoff := d.refreshed arb d.now, port := d.port.posted (as ++ d.returnActions arb) } := by
  unfold State.onlyLines at only
  rw [only]
  exact State.refreshFrom_posted
    { d with lines := { d.lines with line := v.lines.line }, mill := { d.mill with slots := v.mill.slots } } arb as
    operating room

/-- The command of a received train-line frame. -/
def lineReceived (kind : LineKind) (dt : Nat) (arb : Arbitration) (mask : LineMask) : Instr :=
  match kind with
  | .raise => .raiseReceived dt arb mask
  | .veto => .vetoReceived dt arb mask
  | .ask => .askReceived dt arb mask
  | .drop => .dropReceived dt arb mask

/-- A train-line frame of another station acts, and the refresh of the sender's record follows (R125 to R127, R141). -/
theorem exec_lineReceived (kind : LineKind) (dt : Nat) {arb : Arbitration} (mask : LineMask) (reading : s.reading = true)
    (operating : s.startup.station.operating = true) (other : arb.position ≠ s.startup.position) :
    exec (lineReceived kind dt arb mask) s
      = .next (((s.delivered dt).lineArrives kind mask arb.position).refreshFrom arb) := by
  have received : receivedFrame (lineReceived kind dt arb mask) = some (dt, arb) := by cases kind <;> rfl
  have block (u : State) :
      frameActs (lineReceived kind dt arb mask) arb u
        = u.handled arb (fun v => v.lineArrives kind mask arb.position) := by
    cases kind <;> rfl
  rw [exec_receivedFrame received, s.receive_acts dt arb _ reading (fun clash => other clash.2), block,
    State.handled_operating _ _ (by exact operating)]

/-- Settles O53: what the frame of each kind does to the lines, with the refresh behind it. -/
theorem lineFramesReceived : Obligations.LineFramesReceived := by
  intro dt arb mask kind s reading operating other room c d on off trip acts
  have command : c = lineReceived kind dt arb mask := by cases kind <;> rfl
  have effect : acts = LineView.arrives kind := by cases kind <;> rfl
  have posted : trip = d.tripActions kind mask (saturate16 arb.position) := by
    rw [saturate16_position]
    cases kind <;>
      simp [trip, on, off, d, State.tripActions, State.tripOnActions, State.tripOffActions, State.delivered]
  have most := d.tripActions_length kind mask (saturate16 arb.position)
  rw [← posted] at most
  have free : d.port.actions.length + trip.length < 16 := by
    show s.port.actions.length + trip.length < 16
    omega
  have only := d.lineArrives_onlyLines kind mask arb.position (by omega)
  rw [← posted] at only
  have run := exec_lineReceived kind dt mask reading operating other
  rw [State.refreshFrom_onlyLines arb trip only operating free, ← command] at run
  refine ⟨_, run, ?_, ?_, d.slotsTimed_lineArrives kind mask arb.position⟩
  · unfold State.onlyLines at only ⊢
    rw [only]
    rfl
  · rw [effect]
    exact d.view_lineArrives kind mask arb.position

end Sys2Proof.Machine
end


section
/-!
A frame of this station that is sent (R120, R123, R124, R129, R135, R136, R138, R142, R144).
-/

namespace Sys2Proof.Machine

variable {s : State}

/-! ### The train-line frame of each kind -/

/-- The action that a sent train-line frame of each kind posts for TL0 (R129). -/
def State.sentActions (s : State) (kind : LineKind) (m : LineMask) (value : BitVec 16) : List Action :=
  match kind with
  | .raise => s.tripOnActions m value
  | .ask => []
  | .veto => []
  | .drop => s.tripOffActions m value

theorem State.lineFrameSent_port (s : State) (kind : LineKind) (m : LineMask) (room : s.port.actions.length < 16) :
    (s.lineFrameSent kind m).port
      = s.port.posted (s.sentActions kind m (saturate16 s.startup.position)) := by
  cases kind with
  | raise =>
    simp [State.lineFrameSent, State.raiseSent, State.copiesHigh_room (s.unmerge .raise m) m _ (by simpa using room),
      State.tripOnActions, State.sentActions]
  | ask => simp [State.lineFrameSent, State.askSent, State.sentActions]
  | veto => simp [State.lineFrameSent, State.vetoSent, State.sentActions]
  | drop =>
    simp [State.lineFrameSent, State.dropSent, State.copiesLow_room (s.unmerge .drop m) m _ (by simpa using room),
      State.tripOffActions, State.sentActions]

/-- A train-line frame that is sent touches its lines, their slots and the action of TL0 alone (R123, R129). -/
theorem State.lineFrameSent_onlyLines (s : State) (kind : LineKind) (m : LineMask) (room : s.port.actions.length < 16) :
    State.onlyLines { s with port := s.port.posted (s.sentActions kind m (saturate16 s.startup.position)) }
      (s.lineFrameSent kind m) := by
  rw [State.onlyLines_iff, MillLine.eq_iff, s.lineFrameSent_port kind m room]
  simp

/-- Lines that leave one slot move no filling time (R120, R142). -/
theorem Slots.timed_remove (slots : Slots) (now : Nat) (left : LineKind) (m : LineMask) (kind : LineKind) :
    Slot.timed now (slots.get kind) ((slots.modify left (Slot.remove m)).get kind) := by
  rw [Slots.get_modify]
  split_ifs
  · exact Slot.timed_remove _ _ _
  · exact Slot.timed_refl _ _

/-- Lines leave one slot and others are merged into another one (R120, R142). -/
theorem Slots.timed_remove_merge (slots : Slots) (now : Nat) (m k : LineMask) {left filled : LineKind}
    (apart : filled ≠ left) (kind : LineKind) :
    Slot.timed now (slots.get kind)
      (((slots.modify left (Slot.remove m)).modify filled (Slot.merge now k)).get kind) := by
  by_cases fills : kind = filled
  · rw [Slots.get_modify, if_pos fills, Slots.get_modify, if_neg (fills ▸ apart)]
    exact Slot.timed_merge _ _ _
  · rw [Slots.get_modify, if_neg fills]
    exact slots.timed_remove now left m kind

/-- A sent RAISE merges an ASK for the lines that are no longer contributed to (R123). -/
theorem State.raiseSent_slots (s : State) (m : LineMask) :
    (s.raiseSent m).mill.slots
      = s.mill.slots.modify .ask (Slot.merge s.now (m &&& ~~~s.contributions &&& s.askPhase .none)) := by
  simp [State.raiseSent, State.beginAsks]

/-- A sent DROP merges a RAISE for the lines that are contributed to (R123). -/
theorem State.dropSent_slots (s : State) (m : LineMask) :
    (s.dropSent m).mill.slots = s.mill.slots.modify .raise (Slot.merge s.now (m &&& s.contributions)) := by
  simp [State.dropSent]

theorem State.slotsTimed_lineFrameSent (s : State) (kind : LineKind) (m : LineMask) :
    s.slotsTimed (s.lineFrameSent kind m) := by
  intro other
  rw [(s.lineFrameSent_frame kind m).1]
  cases kind with
  | raise =>
    show Slot.timed s.now (s.mill.slots.get other) (((s.unmerge .raise m).raiseSent m).mill.slots.get other)
    rw [State.raiseSent_slots]
    exact s.mill.slots.timed_remove_merge s.now m _ (nofun : LineKind.ask ≠ .raise) other
  | drop =>
    show Slot.timed s.now (s.mill.slots.get other) (((s.unmerge .drop m).dropSent m).mill.slots.get other)
    rw [State.dropSent_slots]
    exact s.mill.slots.timed_remove_merge s.now m _ (nofun : LineKind.raise ≠ .drop) other
  | ask => exact s.mill.slots.timed_remove s.now .ask m other
  | veto => exact s.mill.slots.timed_remove s.now .veto m other

/-! ### The end of the attempt -/

/-- Without an attempt nothing is sent (log entry 4). -/
theorem exec_frameSent_none (dt : Nat) (free : s.mill.flight = none) : exec (.frameSent dt) s = .next (s.elapse dt) := by
  simp [exec, execFrameSent, free]

theorem exec_frameSent (dt : Nat) {f : Flight} (flying : s.mill.flight = some f) :
    exec (.frameSent dt) s = .next (((s.elapse dt).readOn f).flightSent f) := by
  simp [exec, execFrameSent, flying]

/-- A frame of a place that is sent leaves its place; a CLAIM of a station in CLAIMING makes it PLACED besides (R144, R149). -/
theorem State.flightSent_place {f : Flight} {body : FrameBody} (source : f.source = .place body)
    (stays : ¬ (body.isClaim = true ∧ s.startup.station = .claiming)) : s.flightSent f = s.dropFlying := by
  unfold State.flightSent
  rw [source]
  exact if_neg stays

theorem State.flightSent_slot {f : Flight} {kind : LineKind} {m : LineMask} {filledAt : Nat}
    (source : f.source = .slot kind m filledAt) : s.flightSent f = s.endFlight.lineFrameSent kind m := by
  unfold State.flightSent
  rw [source]

/-- The action of TL0 in the statement's words (R129). -/
theorem State.sentActions_eq (s : State) (kind : LineKind) (m : LineMask) (value : BitVec 16) :
    s.sentActions kind m value
      = if m.getLsbD 0 = true
            ∧ ((kind = .raise ∧ s.lines.line.l0.copy = false) ∨ (kind = .drop ∧ s.lines.line.l0.copy = true)) then
          [{ kind := if kind = .raise then .tripOn else .tripOff, value := value }]
        else [] := by
  cases kind <;> simp [State.sentActions, State.tripOnActions, State.tripOffActions]

/-- Settles O42: a place is emptied; the lines of a slot take the effects of the frame of their kind. -/
theorem frameSentEffects : Obligations.FrameSentEffects := by
  intro dt s
  refine ⟨exec_frameSent_none dt, fun f flying => ?_⟩
  intro idle ended
  refine ⟨fun body source stays => ?_, ?_⟩
  · have stands := not_and_or.mpr (stays.imp_left ne_true_of_eq_false)
    rw [exec_frameSent dt flying, State.flightSent_place source (by exact stands)]
    rfl
  · intro kind m filledAt source room low window changes trip
    let d : State := ((s.elapse dt).readOn f).endFlight
    have run : exec (.frameSent dt) s = .next (d.lineFrameSent kind m) := by
      rw [exec_frameSent dt flying, State.flightSent_slot source]
    have own : saturate16 d.startup.position = BitVec.ofNat 16 s.startup.position :=
      congrArg (BitVec.ofNat 16) (Nat.min_eq_left (by omega : s.startup.position ≤ 65535))
    have posted : d.sentActions kind m (saturate16 d.startup.position) = if changes then [trip] else [] := by
      rw [own, State.sentActions_eq]
      rfl
    have only := d.lineFrameSent_onlyLines kind m room
    rw [posted] at only
    exact ⟨_, run, only, d.view_lineFrameSent kind m, d.slotsTimed_lineFrameSent kind m⟩

end Sys2Proof.Machine
end


section
/-!
A frame handed to the transmit queue and an action posted to the action queue (R142, R143, R160, R162).
-/

namespace Sys2Proof.Machine

variable {s : State}

/-! ### The places -/

theorem routineFrame_eq (body : FrameBody) : routineFrame body = body.routine := by cases body <;> rfl

/-- The statement's words for a frame that an urgent one may not displace (R143). -/
theorem QueuedFrame.displaceable_eq_false (g : QueuedFrame) :
    g.displaceable = false ↔ routineFrame g.body = false ∨ g.flying = true := by
  rw [routineFrame_eq, QueuedFrame.displaceable, Bool.and_eq_false_iff, Bool.not_eq_false']

/-- The last element with a property is dropped from where it stands. -/
theorem dropLastWhere_append {α : Type} {p : α → Bool} {ahead behind : List α} {x : α} (hx : p x = true)
    (others : ∀ y ∈ behind, p y = false) : dropLastWhere p (ahead ++ x :: behind) = ahead ++ behind := by
  induction ahead with
  | nil =>
    have last : ¬ behind.any p = true := by simpa using others
    rw [List.nil_append, dropLastWhere, if_neg last, if_pos hx, List.nil_append]
  | cons a ahead ih =>
    have later : (ahead ++ x :: behind).any p = true := by simp [hx]
    rw [List.cons_append, dropLastWhere, if_pos later, ih, List.cons_append]

/-- A new PACE takes the place of the only PACE (R143; log entry 13). -/
theorem State.enqueue_replaces (s : State) {body : FrameBody} (age : Option AgeCount) (pace : body.isPace = true)
    {ahead behind : List QueuedFrame} {old : QueuedFrame} (stands : s.mill.queue = ahead ++ old :: behind)
    (replaced : old.body.isPace = true) (others : ∀ g ∈ ahead ++ behind, g.body.isPace = false) :
    s.enqueue body age
      = { s with
          mill := { s.mill with queue := ahead ++ { body := body, age := age, flying := false } :: behind } } := by
  have found : s.mill.queue.any (fun g => g.body.isPace) = true := by simp [stands, replaced]
  have kept (l : List QueuedFrame) (others : ∀ g ∈ l, g.body.isPace = false) :
      l.map (fun g => if g.body.isPace then { body := body, age := age, flying := false } else g) = l :=
    (List.map_congr_left fun g hg => if_neg (by simp [others g hg])).trans l.map_id
  unfold State.enqueue
  dsimp only
  rw [if_pos ⟨pace, found⟩, stands, List.map_append, List.map_cons, if_pos replaced,
    kept ahead fun g hg => others g (List.mem_append_left _ hg),
    kept behind fun g hg => others g (List.mem_append_right _ hg)]

section FullQueue

variable {body : FrameBody} (age : Option AgeCount)
  (replacesNone : body.isPace = true → ∀ g ∈ s.mill.queue, g.body.isPace = false) (full : s.mill.queue.length = 8)

include replacesNone full

/-- With 8 places taken and no PACE to replace, the frame's class and the places decide (R143). -/
theorem State.enqueue_full :
    s.enqueue body age
      = if body.routine then { s with mill := { s.mill with txOverflows := satInc16 s.mill.txOverflows } }
        else if s.mill.queue.any QueuedFrame.displaceable then
          { s with
            mill :=
              { s.mill with
                queue :=
                  dropLastWhere QueuedFrame.displaceable s.mill.queue ++ [{ body := body, age := age, flying := false }]
                txOverflows := satInc16 s.mill.txOverflows } }
        else
          State.post { s with mill := { s.mill with txOverflows := satInc16 s.mill.txOverflows } }
            (faultAction .txOverflow body.serial (BitVec.ofNat 8 body.kindCode) body.featureCode) := by
  have noPace : ¬ (body.isPace = true ∧ s.mill.queue.any (fun g => g.body.isPace) = true) := by
    rintro ⟨pace, found⟩
    obtain ⟨g, hg, isPace⟩ := List.any_eq_true.mp found
    exact absurd isPace (by simp [replacesNone pace g hg])
  have noPlace : ¬ s.mill.queue.length < Config.placeCapacity := by simp [full, Config.placeCapacity]
  unfold State.enqueue
  dsimp only
  rw [if_neg noPace, if_neg noPlace]

/-- An urgent frame displaces the youngest routine frame not in flight (R143). -/
theorem State.enqueue_displaces (urgent : body.routine = false) {ahead behind : List QueuedFrame} {old : QueuedFrame}
    (stands : s.mill.queue = ahead ++ old :: behind) (displaced : old.displaceable = true)
    (others : ∀ g ∈ behind, g.displaceable = false) :
    s.enqueue body age
      = { s with
          mill :=
            { s.mill with
              queue := ahead ++ behind ++ [{ body := body, age := age, flying := false }]
              txOverflows := satInc16 s.mill.txOverflows } } := by
  have found : s.mill.queue.any QueuedFrame.displaceable = true := by simp [stands, displaced]
  rw [State.enqueue_full age replacesNone full, if_neg (by simp [urgent]), if_pos found, stands,
    dropLastWhere_append displaced others]

/-- An urgent frame that can displace none is lost with a FAULT (R143, R160). -/
theorem State.enqueue_loses (urgent : body.routine = false) (none : ∀ g ∈ s.mill.queue, g.displaceable = false) :
    s.enqueue body age
      = { s with
          mill := { s.mill with txOverflows := satInc16 s.mill.txOverflows }
          port :=
            s.port.taking
              (faultAction .txOverflow body.serial (BitVec.ofNat 8 body.kindCode) body.featureCode) } := by
  have nothing : ¬ s.mill.queue.any QueuedFrame.displaceable = true := by simpa using none
  rw [State.enqueue_full age replacesNone full, if_neg (by simp [urgent]), if_neg nothing, State.post_taking]

end FullQueue

/-! ### The action queue -/

/-- Several actions are posted one after the other (R160). -/
theorem State.postAll_taking (s : State) (as : List Action) :
    s.postAll as = { s with port := as.foldl Port.taking s.port } := by
  induction as generalizing s with
  | nil => rfl
  | cons a as ih =>
    calc
      s.postAll (a :: as) = (s.post a).postAll as := rfl
      _ = { s with port := (a :: as).foldl Port.taking s.port } := by rw [ih, State.post_taking]; rfl

/-- Settles O44: the five outcomes of R143 in their order, and the posting of one action and of several. -/
theorem transmitQueueRule : Obligations.TransmitQueueRule := by
  refine ⟨fun s body age => ?_, State.post_taking, State.postAll_taking⟩
  intro f queued overflows lost
  refine ⟨fun pace ahead behind old stands replaced others => s.enqueue_replaces age pace stands replaced others,
    fun replacesNone => ⟨fun room => ?_, fun full routine => ?_, fun full urgent => ⟨?_, fun none => ?_⟩⟩⟩
  · exact s.enqueue_free body age (fun pace => by simpa using replacesNone pace) room
  · rw [routineFrame_eq] at routine
    rw [State.enqueue_full age replacesNone full, if_pos routine]
  · intro ahead behind old stands routine waits others
    rw [routineFrame_eq] at urgent
    have displaced : old.displaceable = true := by
      rw [QueuedFrame.displaceable, ← routineFrame_eq, routine, waits]
      rfl
    exact State.enqueue_displaces age replacesNone full urgent stands displaced fun g hg =>
      g.displaceable_eq_false.mpr (others g hg)
  · have gone := State.enqueue_loses age replacesNone full (routineFrame_eq body ▸ urgent) fun g hg =>
      g.displaceable_eq_false.mpr (none g hg)
    cases body with
    | take serial kind anon | bind serial kind tag anon =>
      simp only [lost, kindByte_eq]
      exact gone
    | pass serial tag estimated | lapse serial tag estimated overrun => exact gone
    | claim | offer | pace => exact absurd urgent nofun

end Sys2Proof.Machine
end


section
/-!
An attempt to send: what stands first in the order of sending, and the bits that it drives (R32, R33, R120, R142, R144,
sections 9.2 and 9.6.1).
-/

namespace Sys2Proof.Machine

variable {s : State}

/-! ### The content of a frame -/

/-- A field of two bytes keeps its number modulo its size (section 9.6.2). -/
theorem bigEndian_two_ofNat (v : Nat) : bigEndian 2 v = two (BitVec.ofNat 16 v) := by
  have high : BitVec.ofNat 8 (v / 256) = BitVec.ofNat 8 ((BitVec.ofNat 16 v).toNat / 256) := by
    apply BitVec.eq_of_toNat_eq
    simp only [BitVec.toNat_ofNat]
    omega
  have low : BitVec.ofNat 8 v = BitVec.ofNat 8 (BitVec.ofNat 16 v).toNat := by
    apply BitVec.eq_of_toNat_eq
    simp only [BitVec.toNat_ofNat]
    omega
  rw [← bigEndian_two]
  simp only [bigEndian, high, low]

theorem claimFlags_eq (first last : Bool) :
    flagBit first 0 ||| flagBit last 1 = BitVec.ofNat 8 (first.toNat + 2 * last.toNat) := by
  cases first <;> cases last <;> rfl

/-- The header and the payload of a frame of a place are those of section 9.6.1. -/
theorem sentContent_eq (position age : Nat) (body : FrameBody) :
    headerByte body.routine (position - 1) body.kindCode :: body.payload age
      = sentContent position (BitVec.ofNat 16 age) body := by
  cases body with
  | claim p first last =>
    simp [sentContent, headerByte, FrameBody.payload, FrameBody.routine, FrameBody.kindCode, claimFlags_eq]
  | pace p code counter last =>
    cases last <;>
      simp [sentContent, headerByte, FrameBody.payload, FrameBody.routine, FrameBody.kindCode, kindByte_eq,
        bigEndian_two_ofNat, takeRefSerial, takeRefKind]
  | _ =>
    simp [sentContent, headerByte, FrameBody.payload, FrameBody.routine, FrameBody.kindCode, kindByte_eq, tagByte_eq,
      flagBit_eq, bigEndian_two_ofNat]

/-- The header of a train-line frame is that of an urgent frame of its kind (section 9.6.1). -/
theorem lineWire_eq (kind : LineKind) (m : LineMask) (position : Nat) :
    lineWire kind m position
      = frameLine
          [BitVec.ofNat 8 ((position - 1) * 16 + match kind with | .raise => 8 | .ask => 9 | .veto => 10 | .drop => 11), m] := by
  cases kind <;> simp [lineWire, headerByte, LineKind.code]

/-! ### The slot that stands first -/

/-- The place of a kind among slots with one filling time (R142; log entry 14). -/
def LineKind.rank (kind : LineKind) : Nat :=
  match kind with
  | .raise => 0
  | .veto => 1
  | .ask => 2
  | .drop => 3

/-- The kind of a place in that order. -/
def LineKind.ofRank : Nat → LineKind
  | 0 => .raise
  | 1 => .veto
  | 2 => .ask
  | _ => .drop

theorem LineKind.rank_injective : Function.Injective LineKind.rank :=
  Function.LeftInverse.injective (g := LineKind.ofRank) fun kind => by cases kind <;> rfl

/-- A slot stands before another one or is the same: the earlier filling time, and of two alike the kind's place (R142). -/
def Slots.before (slots : Slots) (k other : LineKind) : Prop :=
  (slots.get k).filledAt ≤ (slots.get other).filledAt
    ∧ ((slots.get other).filledAt = (slots.get k).filledAt → k.rank ≤ other.rank)

theorem Slots.before_antisymm {slots : Slots} {k other : LineKind} (one : slots.before k other)
    (back : slots.before other k) : k = other := by
  have times : (slots.get other).filledAt = (slots.get k).filledAt := Nat.le_antisymm back.1 one.1
  exact LineKind.rank_injective (Nat.le_antisymm (one.2 times) (back.2 times.symm))

/-- Among the kinds seen so far, the filled slot found stands before every other filled one, or none is filled. -/
def Slots.Leads (slots : Slots) (seen : List LineKind) (best : Option (LineKind × Slot)) : Prop :=
  match best with
  | none => ∀ other ∈ seen, (slots.get other).mask = 0#8
  | some (k, slot) =>
    slot = slots.get k ∧ slot.mask ≠ 0#8 ∧ k ∈ seen
      ∧ ∀ other ∈ seen, (slots.get other).mask ≠ 0#8 → slots.before k other

/-- The next kind in the order is examined (R142). -/
theorem Slots.Leads.earlierSlot {slots : Slots} {seen : List LineKind} {best : Option (LineKind × Slot)}
    (leads : slots.Leads seen best) (kind : LineKind) (next : ∀ k ∈ seen, k.rank ≤ kind.rank) :
    slots.Leads (kind :: seen) (earlierSlot best kind (slots.get kind)) := by
  unfold Machine.earlierSlot
  split_ifs with empty
  · match best with
    | none => exact List.forall_mem_cons.mpr ⟨empty, leads⟩
    | some (k, slot) =>
      obtain ⟨own, filled, mem, before⟩ := leads
      exact ⟨own, filled, List.mem_cons_of_mem _ mem, List.forall_mem_cons.mpr ⟨fun some => absurd empty some, before⟩⟩
  · match best with
    | none =>
      refine ⟨rfl, empty, List.mem_cons_self, List.forall_mem_cons.mpr ⟨fun _ => ⟨le_rfl, fun _ => le_rfl⟩, ?_⟩⟩
      exact fun other mem some => absurd (leads other mem) some
    | some (k, slot) =>
      obtain ⟨rfl, filled, mem, before⟩ := leads
      dsimp only
      split_ifs with earlier
      · refine ⟨rfl, empty, List.mem_cons_self, List.forall_mem_cons.mpr ⟨fun _ => ⟨le_rfl, fun _ => le_rfl⟩, ?_⟩⟩
        intro other mem some
        have later := lt_of_lt_of_le earlier (before other mem some).1
        exact ⟨later.le, fun same => absurd same later.ne'⟩
      · exact ⟨rfl, filled, List.mem_cons_of_mem _ mem,
          List.forall_mem_cons.mpr ⟨fun _ => ⟨Nat.le_of_not_lt earlier, fun _ => next k mem⟩, before⟩⟩

theorem Slots.first_leads (slots : Slots) : slots.Leads [.drop, .ask, .veto, .raise] slots.first := by
  have start : slots.Leads [] none := nofun
  exact (((start.earlierSlot .raise nofun).earlierSlot .veto (by decide)).earlierSlot .ask (by decide)).earlierSlot .drop
    (by decide)

theorem LineKind.mem_all (kind : LineKind) : kind ∈ [LineKind.drop, .ask, .veto, .raise] := by
  cases kind <;> decide

theorem Slots.first_empty {slots : Slots} (empty : ∀ k, (slots.get k).mask = 0#8) : slots.first = none := by
  have leads := slots.first_leads
  cases found : slots.first with
  | none => rfl
  | some best =>
    rw [found] at leads
    obtain ⟨own, filled, -⟩ := leads
    exact absurd (own ▸ empty best.1) filled

theorem Slots.first_of_before {slots : Slots} {k : LineKind} (filled : (slots.get k).mask ≠ 0#8)
    (before : ∀ other, (slots.get other).mask ≠ 0#8 → slots.before k other) : slots.first = some (k, slots.get k) := by
  have leads := slots.first_leads
  cases found : slots.first with
  | none =>
    rw [found] at leads
    exact absurd (leads k k.mem_all) filled
  | some best =>
    obtain ⟨other, slot⟩ := best
    rw [found] at leads
    obtain ⟨rfl, filledOther, -, beforeOther⟩ := leads
    rw [Slots.before_antisymm (before other filledOther) (beforeOther k k.mem_all filled)]

/-! ### The frame that stands first -/

/-- The frame stands first among the places: the urgent one queued earliest, or the routine one where none is urgent (R142). -/
def standsFirst (ahead behind : List QueuedFrame) (f : QueuedFrame) : Prop :=
  ((∀ g ∈ ahead, routineFrame g.body = true) ∧ routineFrame f.body = false)
    ∨ (ahead = [] ∧ ∀ g ∈ ahead ++ f :: behind, routineFrame g.body = true)

theorem firstPlace_eq {ahead behind : List QueuedFrame} {f : QueuedFrame} (first : standsFirst ahead behind f) :
    firstPlace (ahead ++ f :: behind) = some f := by
  unfold firstPlace
  simp only [standsFirst, routineFrame_eq] at first
  obtain ⟨routine, urgent⟩ | ⟨rfl, routine⟩ := first
  · have skipped : ahead.find? (fun g => !g.body.routine) = none := by simpa using routine
    simp [skipped, urgent]
  · have nobody : (f :: behind).find? (fun g => !g.body.routine) = none := by simpa using routine
    rw [List.nil_append, nobody]
    rfl

/-- The first element with a property is changed where it stands. -/
theorem modifyFirst_append {α : Type} {p : α → Bool} (change : α → α) {ahead behind : List α} {x : α} (hx : p x = true)
    (others : ∀ y ∈ ahead, p y = false) : modifyFirst p change (ahead ++ x :: behind) = ahead ++ change x :: behind := by
  induction ahead with
  | nil => rw [List.nil_append, modifyFirst, if_pos hx, List.nil_append]
  | cons a ahead ih =>
    obtain ⟨ha, rest⟩ := List.forall_mem_cons.mp others
    rw [List.cons_append, modifyFirst, if_neg (by simp [ha]), ih rest, List.cons_append]

theorem markFlying_eq {ahead behind : List QueuedFrame} {f : QueuedFrame} (first : standsFirst ahead behind f) :
    markFlying f.body.routine (ahead ++ f :: behind) = ahead ++ { f with flying := true } :: behind := by
  refine modifyFirst_append _ (beq_self_eq_true _) fun g hg => ?_
  simp only [standsFirst, routineFrame_eq] at first
  obtain ⟨routine, urgent⟩ | ⟨rfl, -⟩ := first
  · simp [routine g hg, urgent]
  · exact absurd hg List.not_mem_nil

/-! ### The attempt -/

theorem StationState.sends_iff (st : StationState) : st.sends = true ↔ st = .claiming ∨ st.operating = true := by
  cases st <;> decide

/-- The station may send and finds the line idle (R13, R144). -/
def State.mayAttempt (s : State) : Prop :=
  (s.startup.station = .claiming ∨ s.startup.station.operating = true) ∧ s.mill.rx = .ready ∧ s.mill.flight = none

theorem exec_attempt_none (dt : Nat) (waits : ¬ s.mayAttempt) : exec (.attempt dt) s = .next (s.elapse dt) :=
  congrArg Host.Outcome.next (if_neg fun may => waits ⟨(StationState.sends_iff _).mp may.1, may.2⟩)

theorem exec_attempt (dt : Nat) (may : s.mayAttempt) : exec (.attempt dt) s = .next (s.elapse dt).beginAttempt :=
  congrArg Host.Outcome.next (if_pos ⟨(StationState.sends_iff _).mpr may.1, may.2⟩)

theorem State.beginAttempt_nothing (slots : s.mill.slots.first = none) (queue : s.mill.queue = []) :
    s.beginAttempt = s := by
  unfold State.beginAttempt
  rw [slots, queue]
  rfl

/-- The mask of a slot is taken out and driven (R120, R144). -/
theorem State.beginAttempt_slot {kind : LineKind} {slot : Slot} (first : s.mill.slots.first = some (kind, slot)) :
    s.beginAttempt
      = { s with
          mill :=
            { s.detectSof.mill with
              slots := s.mill.slots.modify kind (fun _ => Slot.empty)
              flight :=
                some { source := .slot kind slot.mask slot.filledAt, wire := lineWire kind slot.mask s.startup.position } } } := by
  unfold State.beginAttempt
  rw [first]
  rfl

/-- A frame keeps its place and is driven (R142, R144). -/
theorem State.beginAttempt_place {f : QueuedFrame} (slots : s.mill.slots.first = none)
    (first : firstPlace s.mill.queue = some f) :
    s.beginAttempt
      = { s with
          mill :=
            { s.detectSof.mill with
              queue := markFlying f.body.routine s.mill.queue
              flight := some { source := .place f.body, wire := f.body.wire s.startup.position (f.stamp s.now) } } } := by
  unfold State.beginAttempt
  rw [slots]
  dsimp only
  rw [first]
  rfl

/-- Settles O41: the slot or the place that stands first is found, and its bits are those of section 9.6.1. -/
theorem attemptSendsFirst : Obligations.AttemptSendsFirst := by
  intro dt s
  refine ⟨exec_attempt_none dt, fun ready empty nobody => ?_, fun ready k filled before => ?_,
    fun ready empty ahead behind f stands first => ?_⟩
  · have slots : (s.elapse dt).mill.slots.first = none := Slots.first_empty fun k => not_not.mp (empty k)
    rw [exec_attempt dt ready, State.beginAttempt_nothing slots nobody]
    rfl
  · have slots : (s.elapse dt).mill.slots.first = some (k, s.mill.slots.get k) :=
      Slots.first_of_before filled before
    rw [exec_attempt dt ready, State.beginAttempt_slot slots, lineWire_eq]
    rfl
  · have slots : (s.elapse dt).mill.slots.first = none := Slots.first_empty fun k => not_not.mp (empty k)
    rw [stands] at first
    have place : firstPlace (s.elapse dt).mill.queue = some f := by
      show firstPlace s.mill.queue = some f
      rw [stands]
      exact firstPlace_eq first
    have marked : markFlying f.body.routine (s.elapse dt).mill.queue = ahead ++ { f with flying := true } :: behind := by
      show markFlying f.body.routine s.mill.queue = _
      rw [stands]
      exact markFlying_eq first
    rw [exec_attempt dt ready, State.beginAttempt_place slots place, marked, FrameBody.wire, sentContent_eq]
    rfl

end Sys2Proof.Machine
end


section
/-!
The line bits of a frame and their reading (R133, R134, R137, R138, R139, sections 9.2 and 9.6.1).
-/

namespace Sys2Proof.Machine

/-! ### Bytes and their bits -/

theorem bytesBits_cons (b : Byte) (bs : List Byte) : bytesBits (b :: bs) = byteBits b ++ bytesBits bs := List.flatMap_cons

theorem bytesBits_append (as bs : List Byte) : bytesBits (as ++ bs) = bytesBits as ++ bytesBits bs := List.flatMap_append

theorem bytesBits_length (bs : List Byte) : (bytesBits bs).length = 8 * bs.length := by
  induction bs with
  | nil => rfl
  | cons b bs ih =>
    have eight : (byteBits b).length = 8 := rfl
    rw [bytesBits_cons, List.length_append, ih, eight, List.length_cons, Nat.mul_succ, Nat.add_comm]

theorem bitsNat_byteBits (b : Byte) : BitVec.ofNat 8 (bitsNat (byteBits b)) = b := by
  revert b
  decide

/-- The bytes of a run of bytes' bits are those bytes (R133). -/
theorem packBytes_bytesBits (bs : List Byte) : packBytes (bytesBits bs) = bs := by
  induction bs with
  | nil => rfl
  | cons b bs ih =>
    calc
      packBytes (byteBits b ++ bytesBits bs) = BitVec.ofNat 8 (bitsNat (byteBits b)) :: packBytes (bytesBits bs) := rfl
      _ = b :: bs := by rw [bitsNat_byteBits, ih]

theorem bytesBits_injective : Function.Injective bytesBits := Function.LeftInverse.injective packBytes_bytesBits

/-- The bits of a CRC are those of its two bytes, high byte first (R137). -/
theorem crcBits_eq (crc : BitVec 16) : crcBits crc = bytesBits (two crc) := rfl

/-! ### The checks of whole bytes -/

/-- The last sixteen bits are those of the last two bytes (R137). -/
theorem bytesBits_cut {bytes : List Byte} (long : 2 ≤ bytes.length) :
    (bytesBits bytes).take ((bytesBits bytes).length - 16) = bytesBits (bytes.take (bytes.length - 2))
      ∧ (bytesBits bytes).drop ((bytesBits bytes).length - 16) = bytesBits (bytes.drop (bytes.length - 2)) := by
  have cut : (bytesBits bytes).length - 16 = (bytesBits (bytes.take (bytes.length - 2))).length := by
    rw [bytesBits_length, bytesBits_length, List.length_take]
    omega
  have parts : bytesBits bytes
      = bytesBits (bytes.take (bytes.length - 2)) ++ bytesBits (bytes.drop (bytes.length - 2)) := by
    rw [← bytesBits_append, List.take_append_drop]
  rw [cut, parts]
  exact ⟨List.take_left, List.drop_left⟩

/-- The checks of a frame that ended on whole bytes, said of its bytes (R139). -/
theorem checkContent_bytesBits (bytes : List Byte) : checkContent (bytesBits bytes) = bytesVerdict bytes := by
  unfold checkContent bytesVerdict
  dsimp only
  rw [packBytes_bytesBits]
  by_cases short : bytes.length < 3
  · rw [if_pos short, if_pos short]
  rw [if_neg short, if_neg short]
  obtain ⟨front, back⟩ := bytesBits_cut (show 2 ≤ bytes.length by omega)
  rw [front, back, crcBits_eq]
  by_cases good : bytes.drop (bytes.length - 2) = two (crcOf (bytesBits (bytes.take (bytes.length - 2))))
  · rw [if_neg (not_not_intro (congrArg bytesBits good.symm)), if_neg (not_not_intro good)]
    obtain ⟨header, rest, rfl⟩ := List.exists_cons_of_length_pos (show 0 < bytes.length by omega)
    have long : (header :: rest).length - 2 = rest.length - 2 + 1 := by
      rw [List.length_cons] at short ⊢
      omega
    have payload : ((header :: rest).take ((header :: rest).length - 2)).drop 1 = rest.take (rest.length - 2) := by
      rw [long, List.take_succ_cons, List.drop_one, List.tail_cons]
    have length : (rest.take (rest.length - 2)).length = rest.length - 2 := by simp
    rw [payload, length]
    rfl
  · rw [if_pos (bytesBits_injective.ne (Ne.symm good)), if_pos good]

/-! ### Stuffing -/

/-- The length at which a run of a level is full and a stuff bit follows (R134). -/
def fullRun (level : Bool) : Nat := if level then 5 else 7

/-- The length of the run behind a content bit. -/
def nextRun (level : Bool) (run : Nat) (b : Bool) : Nat := if b = level then run + 1 else 1

/-- A content bit is sent, and a stuff bit behind it when it makes its run full (R134). -/
theorem stuffFrom_cons (level : Bool) (run : Nat) (b : Bool) (bs : List Bool) :
    stuffFrom level run (b :: bs)
      = b :: (if nextRun level run b = fullRun b then (!b) :: stuffFrom (!b) 1 bs
          else stuffFrom b (nextRun level run b) bs) := by
  rw [stuffFrom]
  cases b
  · simp only [nextRun, fullRun, Bool.false_eq_true, false_and, true_and, if_false, Bool.not_false]
    split_ifs <;> rfl
  · simp only [nextRun, fullRun, Bool.true_eq_false, false_and, true_and, if_false, if_true, Bool.not_true]
    split_ifs <;> rfl

/-! ### The receiver, bit by bit -/

theorem not_full {level : Bool} {run : Nat} (short : run < fullRun level) :
    ¬ (level = true ∧ run = 5) ∧ ¬ (level = false ∧ run = 7) := by
  constructor <;>
    · rintro ⟨rfl, rfl⟩
      exact absurd short (by decide)

/-- A run that is not full takes the next bit as content (R134, R139). -/
theorem readBits_content {level : Bool} {run : Nat} {content : List Bool} {b : Bool} (mark : Nat) (bs : List Bool)
    (short : run < fullRun level) (fits : b = true ∨ content.length < 96) :
    readBits level run content mark (b :: bs)
      = readBits b (nextRun level run b) (content ++ [b]) (if b = level then mark else content.length) bs := by
  obtain ⟨notFive, notSeven⟩ := not_full short
  have room : ¬ (b = false ∧ Config.longestContent < content.length + 1) := by
    rintro ⟨rfl, long⟩
    obtain recessive | few := fits
    · exact absurd recessive nofun
    · simp only [Config.longestContent] at long
      omega
  rw [readBits, if_neg notFive, if_neg notSeven, if_neg room, nextRun]
  split_ifs with same
  · rw [same]
  · rfl

/-- A dominant content bit behind 96 content bits (R139). -/
theorem readBits_tooMany {level : Bool} {run : Nat} {content : List Bool} (mark : Nat) (bs : List Bool)
    (short : run < fullRun level) (long : 96 ≤ content.length) :
    readBits level run content mark (false :: bs) = .overlong := by
  obtain ⟨notFive, notSeven⟩ := not_full short
  rw [readBits, if_neg notFive, if_neg notSeven, if_pos ⟨rfl, Nat.lt_succ_of_le long⟩]

/-- The stuff bit behind a full run (R134). -/
theorem readBits_stuffBit {content : List Bool} (b : Bool) (mark : Nat) (bs : List Bool) (fits : content.length ≤ 96) :
    readBits b (fullRun b) content mark ((!b) :: bs) = readBits (!b) 1 content content.length bs := by
  cases b
  · rfl
  · exact if_neg (Nat.not_lt.mpr fits)

/-- The stuff bit behind a full recessive run that holds too many content bits (R139; log entry 23). -/
theorem readBits_stuffBit_tooMany {content : List Bool} (mark : Nat) (bs : List Bool) (long : 96 < content.length) :
    readBits true (fullRun true) content mark (false :: bs) = .overlong := if_pos long

/-- The eighth dominant bit of a run (R134, R139). -/
theorem readBits_eighth (content : List Bool) (mark : Nat) (bs : List Bool) :
    readBits false (fullRun false) content mark (false :: bs) = .stuffing := rfl

/-- The sixth recessive bit of a run (R138). -/
theorem readBits_sixth (content : List Bool) (mark : Nat) (bs : List Bool) :
    readBits true (fullRun true) content mark (true :: bs) = endFrame content mark := rfl

/-! ### Reading stuffed content -/

/-- The receiver between two content bits of a stuffed frame: the run that stands is not full, and of a recessive one no more
bits than its length stand behind the mark (R134, R138). -/
structure Reading (level : Bool) (run : Nat) (content : List Bool) (mark : Nat) : Prop where
  short : run < fullRun level
  standing : level = true → ∃ (ahead : List Bool) (j : Nat),
    content = ahead ++ List.replicate j true ∧ mark = ahead.length ∧ j ≤ run

theorem Reading.behindStuffBit (content : List Bool) (level : Bool) : Reading level 1 content content.length where
  short := by cases level <;> decide
  standing _ := ⟨content, 0, (List.append_nil _).symm, rfl, Nat.zero_le 1⟩

theorem Reading.start : Reading false 1 [] 0 := .behindStuffBit [] false

theorem nextRun_le {level : Bool} {run : Nat} (short : run < fullRun level) (b : Bool) :
    nextRun level run b ≤ fullRun b := by
  unfold nextRun
  split_ifs with same
  · exact same ▸ short
  · cases b <;> decide

theorem Reading.content {level : Bool} {run : Nat} {content : List Bool} {mark : Nat}
    (reading : Reading level run content mark) {b : Bool} (notFull : nextRun level run b ≠ fullRun b) :
    Reading b (nextRun level run b) (content ++ [b]) (if b = level then mark else content.length) where
  short := lt_of_le_of_ne (nextRun_le reading.short b) notFull
  standing := by
    rintro rfl
    by_cases same : true = level
    · obtain ⟨ahead, j, split, mark, most⟩ := reading.standing same.symm
      refine ⟨ahead, j + 1, ?_, ?_, ?_⟩
      · rw [split, List.append_assoc, List.replicate_succ']
      · rw [if_pos same, mark]
      · rw [nextRun, if_pos same]
        omega
    · refine ⟨content, 1, rfl, if_neg same, ?_⟩
      rw [nextRun, if_neg same]

/-- The receiver takes the content bits out of their stuffed line bits (R134, R138). -/
theorem readBits_stuffed (bits : List Bool) {level : Bool} {run : Nat} {content : List Bool} {mark : Nat}
    (reading : Reading level run content mark) (fits : (content ++ bits).length ≤ 96) :
    ∃ (level' : Bool) (run' mark' : Nat), Reading level' run' (content ++ bits) mark'
      ∧ ∀ tail, readBits level run content mark (stuffFrom level run bits ++ tail)
          = readBits level' run' (content ++ bits) mark' tail := by
  induction bits generalizing level run content mark with
  | nil =>
    rw [List.append_nil]
    exact ⟨level, run, mark, reading, fun tail => rfl⟩
  | cons b bits ih =>
    have split : content ++ b :: bits = content ++ [b] ++ bits := by simp
    rw [split] at fits ⊢
    have room : (content ++ [b]).length ≤ 96 := by
      rw [List.length_append] at fits
      omega
    have few : b = true ∨ content.length < 96 := .inr (by simpa using room)
    rw [stuffFrom_cons]
    split_ifs with full
    · obtain ⟨level', run', mark', after, reads⟩ := ih (Reading.behindStuffBit (content ++ [b]) (!b)) fits
      refine ⟨level', run', mark', after, fun tail => ?_⟩
      rw [List.cons_append, List.cons_append, readBits_content _ _ reading.short few, full, readBits_stuffBit b _ _ room,
        reads tail]
    · obtain ⟨level', run', mark', after, reads⟩ := ih (reading.content full) fits
      refine ⟨level', run', mark', after, fun tail => ?_⟩
      rw [List.cons_append, readBits_content _ _ reading.short few, reads tail]

/-- More than 96 content bits are noticed at a dominant bit that follows, at the latest (R139; log entry 23). -/
theorem readBits_overlong (bits rest : List Bool) {level : Bool} {run : Nat} {content : List Bool} {mark : Nat}
    (short : run < fullRun level) (long : 96 < (content ++ bits).length) :
    readBits level run content mark (stuffFrom level run bits ++ false :: rest) = .overlong := by
  induction bits generalizing level run content mark with
  | nil =>
    rw [List.append_nil] at long
    exact readBits_tooMany mark rest short long.le
  | cons b bits ih =>
    have split : content ++ b :: bits = content ++ [b] ++ bits := by simp
    rw [split] at long
    rw [stuffFrom_cons, List.cons_append]
    by_cases tooMany : b = false ∧ 96 ≤ content.length
    · obtain ⟨rfl, many⟩ := tooMany
      exact readBits_tooMany mark _ short many
    have few : b = true ∨ content.length < 96 := by
      rw [← Bool.not_eq_false, ← Nat.not_le, ← not_and_or]
      exact tooMany
    rw [readBits_content _ _ short few]
    by_cases full : nextRun level run b = fullRun b
    · rw [if_pos full, List.cons_append, full]
      by_cases many : 96 < (content ++ [b]).length
      · obtain rfl | fewer := few
        · exact readBits_stuffBit_tooMany _ _ many
        · rw [List.length_append, List.length_singleton] at many
          omega
      · rw [readBits_stuffBit b _ _ (Nat.le_of_not_lt many)]
        exact ih (Reading.behindStuffBit [] (!b)).short long
    · rw [if_neg full]
      exact ih (lt_of_le_of_ne (nextRun_le short b) full) long

/-! ### The ends of a frame -/

/-- The recessive bits that end a frame are read to the sixth of their run (R138). -/
theorem readBits_closingRun (k : Nat) (rest : List Bool) {run : Nat} (content : List Bool) (mark : Nat) (short : run ≤ 5)
    (enough : 6 ≤ run + k) :
    ∃ added, readBits true run content mark (List.replicate k true ++ rest) = endFrame (content ++ added) mark := by
  induction k generalizing run content with
  | zero => omega
  | succ k ih =>
    rw [List.replicate_succ, List.cons_append]
    obtain rfl | fewer := Nat.eq_or_lt_of_le short
    · exact ⟨[], (readBits_sixth content mark _).trans (by rw [List.append_nil])⟩
    · obtain ⟨added, reads⟩ := ih (content ++ [true]) (run := run + 1) fewer (by omega)
      refine ⟨true :: added, (readBits_content _ _ fewer (.inl rfl)).trans ?_⟩
      rw [List.append_cons content true added]
      exact reads

/-- A run of dominant bits is read to its eighth (R134, R139). -/
theorem readBits_dominantRun (k : Nat) (rest : List Bool) {run : Nat} (content : List Bool) (mark : Nat) (short : run ≤ 7)
    (enough : 8 ≤ run + k) (fits : content.length + (7 - run) ≤ 96) :
    readBits false run content mark (List.replicate k false ++ rest) = .stuffing := by
  induction k generalizing run content with
  | zero => omega
  | succ k ih =>
    rw [List.replicate_succ, List.cons_append]
    obtain rfl | fewer := Nat.eq_or_lt_of_le short
    · exact readBits_eighth content mark _
    · rw [readBits_content _ _ fewer (.inr (by omega))]
      exact ih (content ++ [false]) (run := run + 1) fewer (by omega) (by rw [List.length_append, List.length_singleton]; omega)

/-- What stands before the closing run alone decides the end of a frame (R138). -/
theorem endFrame_append (ahead more : List Bool) : endFrame (ahead ++ more) ahead.length = endFrame ahead ahead.length := by
  unfold endFrame
  rw [List.take_left, List.take_length]

/-- Up to four bits of the closing run complete the last byte (R138). -/
theorem endFrame_whole {ahead : List Bool} {k : Nat} (most : k ≤ 4)
    (whole : (ahead ++ List.replicate k true).length % 8 = 0) :
    endFrame ahead ahead.length = checkContent (ahead ++ List.replicate k true) := by
  rw [List.length_append, List.length_replicate] at whole
  have missing : (8 - ahead.length % 8) % 8 = k := by omega
  unfold endFrame
  rw [missing, List.take_length]
  exact if_pos most

/-- One to three bits past a whole byte (R138, R139). -/
theorem endFrame_notWhole {ahead : List Bool}
    (past : ahead.length % 8 = 1 ∨ ahead.length % 8 = 2 ∨ ahead.length % 8 = 3) :
    endFrame ahead ahead.length = .notWholeByte :=
  if_neg (by omega)

/-! ### Verdicts on stuffed content -/

theorem judgeLine_stuffed {content : List Bool} (fits : content.length ≤ 96) :
    ∃ (level : Bool) (run mark : Nat), Reading level run content mark
      ∧ ∀ tail, judgeLine (stuffed content ++ tail) = readBits level run content mark tail :=
  readBits_stuffed content .start fits

/-- Stuffed content and a closing run: the content splits where the closing run began, and the frame ends there (R138). -/
theorem judgeLine_closing {content : List Bool} (fits : content.length ≤ 96) (rest : List Bool) :
    ∃ (ahead : List Bool) (j : Nat), content = ahead ++ List.replicate j true ∧ j ≤ 4
      ∧ judgeLine (stuffed content ++ (List.replicate 8 true ++ rest)) = endFrame ahead ahead.length := by
  obtain ⟨level, run, mark, reading, reads⟩ := judgeLine_stuffed fits
  rw [reads]
  cases level with
  | true =>
    obtain ⟨ahead, j, rfl, rfl, most⟩ := reading.standing rfl
    have short : run < 5 := reading.short
    obtain ⟨added, ends⟩ := readBits_closingRun 8 rest (ahead ++ List.replicate j true) ahead.length short.le (by omega)
    exact ⟨ahead, j, rfl, by omega, by rw [ends, List.append_assoc, endFrame_append]⟩
  | false =>
    obtain ⟨added, ends⟩ := readBits_closingRun 7 rest (run := 1) (content ++ [true]) content.length (by omega) (by omega)
    refine ⟨content, 0, (List.append_nil _).symm, by omega, ?_⟩
    rw [List.replicate_succ, List.cons_append, readBits_content _ _ reading.short (.inl rfl), ← endFrame_append content,
      ← List.append_assoc]
    exact ends

/-- Whole bytes behind their stuffed bits are judged as those bytes (R138, R139). -/
theorem judgeLine_bytes {bytes : List Byte} (most : bytes.length ≤ 12) :
    judgeLine (stuffed (bytesBits bytes) ++ List.replicate 8 true) = bytesVerdict bytes := by
  have fits : (bytesBits bytes).length ≤ 96 := by
    rw [bytesBits_length]
    omega
  obtain ⟨ahead, j, split, few, ends⟩ := judgeLine_closing fits []
  rw [List.append_nil] at ends
  rw [ends, endFrame_whole few (by rw [← split, bytesBits_length]; omega), ← split, checkContent_bytesBits]

/-- Content that does not end on a recessive bit stands before the closing run as a whole (R138). -/
theorem judgeLine_dominantEnd {content : List Bool} (fits : content.length ≤ 96) (last : content.getLast? ≠ some true)
    (rest : List Bool) :
    judgeLine (stuffed content ++ List.replicate 8 true ++ rest) = endFrame content content.length := by
  obtain ⟨ahead, j, split, -, ends⟩ := judgeLine_closing fits rest
  cases j with
  | zero =>
    rw [List.replicate_zero, List.append_nil] at split
    rw [List.append_assoc, ends, split]
  | succ j =>
    rw [List.replicate_succ', ← List.append_assoc] at split
    exact absurd (by rw [split, List.getLast?_concat]) last

theorem judgeLine_eighthDominant {content : List Bool} (fits : content.length + 7 ≤ 96) (rest : List Bool) :
    judgeLine (stuffed content ++ List.replicate 8 false ++ rest) = .stuffing := by
  obtain ⟨level, run, mark, reading, reads⟩ := judgeLine_stuffed (show content.length ≤ 96 by omega)
  rw [List.append_assoc, reads]
  cases level with
  | false => exact readBits_dominantRun 8 rest content mark (show run < 7 from reading.short).le (by omega) (by omega)
  | true =>
    rw [List.replicate_succ, List.cons_append, readBits_content _ _ reading.short (.inr (by omega))]
    exact readBits_dominantRun 7 rest (run := 1) (content ++ [false]) _ (by omega) (by omega)
      (by rw [List.length_append, List.length_singleton]; omega)

theorem judgeLine_overlong {content : List Bool} (long : 96 < content.length) (rest : List Bool) :
    judgeLine (stuffed content ++ [false] ++ rest) = .overlong := by
  rw [List.append_assoc]
  exact readBits_overlong content rest Reading.start.short long

theorem judgeLine_incomplete {content : List Bool} (fits : content.length ≤ 96) :
    judgeLine (stuffed content) = .incomplete := by
  obtain ⟨level, run, mark, -, reads⟩ := judgeLine_stuffed fits
  rw [← List.append_nil (stuffed content), reads]
  rfl

/-! ### The frames of other stations -/

/-- The header byte gives back the class bit, the position and the kind (section 9.2). -/
theorem header_fields :
    ∀ (routine : Bool) (station : Fin 8) (kind : Fin 16),
      let header := headerByte routine station.val kind.val
      header.toNat % 16 = kind.val ∧ Arbitration.ofHeader header = { routine := routine, station := station } := by
  decide

theorem header_kind (arb : Arbitration) {kind : Nat} (code : kind < 16) :
    (arb.header kind).toNat % 16 = kind := (header_fields arb.routine arb.station ⟨kind, code⟩).1

theorem ofHeader_header (arb : Arbitration) {kind : Nat} (code : kind < 16) :
    Arbitration.ofHeader (arb.header kind) = arb := (header_fields arb.routine arb.station ⟨kind, code⟩).2

/-- The two bytes of a word spell it (section 9.6.2). -/
theorem word16_two (v : BitVec 16) : word16 (v.extractLsb' 8 8) (v.extractLsb' 0 8) = v := by
  apply BitVec.eq_of_toNat_eq
  rw [word16_toNat, BitVec.extractLsb'_toNat, BitVec.extractLsb'_toNat, Nat.shiftRight_eq_div_pow, Nat.shiftRight_zero]
  have := v.isLt
  omega

/-- A frame of a known kind and of its length, with its CRC, is valid (R137, R139). -/
theorem bytesVerdict_frame {header : Byte} {payload : List Byte}
    (known : 1 ≤ header.toNat % 16 ∧ header.toNat % 16 ≤ 11) (length : payload.length = payloadLength (header.toNat % 16)) :
    bytesVerdict (header :: payload ++ two (crcOf (bytesBits (header :: payload)))) = .valid header payload := by
  have crcLength (crc : BitVec 16) : (two crc).length = 2 := rfl
  have body : (header :: payload ++ two (crcOf (bytesBits (header :: payload)))).length - 2 = (header :: payload).length := by
    rw [List.length_append, crcLength, Nat.add_sub_cancel]
  have long : ¬ (header :: payload ++ two (crcOf (bytesBits (header :: payload)))).length < 3 := by
    rw [List.length_append, crcLength, List.length_cons]
    omega
  have isKnown : ¬ (header.toNat % 16 = 0 ∨ 12 ≤ header.toNat % 16) := by omega
  unfold bytesVerdict
  dsimp only
  rw [if_neg long, body, List.take_left, List.drop_left, if_neg (not_not_intro rfl)]
  rw [List.cons_append, List.headD_cons, if_neg isKnown, List.drop_one, List.tail_cons]
  exact if_neg (not_not_intro length)

/-- The bits of a whole frame with its CRC and its end delimiter (R134, R137). -/
theorem frameBits_eq (content : List Byte) :
    frameBits content = stuffed (bytesBits (content ++ two (crcOf (bytesBits content)))) ++ List.replicate 8 true := by
  rw [bytesBits_append, ← crcBits_eq]
  rfl

theorem payloadLength_most (kind : Nat) : payloadLength kind ≤ 8 := by
  unfold payloadLength
  split <;> omega

/-- What a received-frame command says of its frame: the header byte of its kind, a payload of the length of the kind, and the
reading that gives the command back (sections 9.2 and 9.6.1). -/
theorem content_frame {c : Instr} {dt : Nat} {arb : Arbitration} {content : List Byte}
    (received : receivedFrame c = some (dt, arb)) (stands : c.content = some content) :
    ∃ (kind : Nat) (payload : List Byte), content = arb.header kind :: payload ∧ 1 ≤ kind ∧ kind ≤ 11
      ∧ payload.length = payloadLength kind ∧ contentCommand dt (arb.header kind) payload = some c := by
  cases c with
  | claimReceived | offerReceived | takeReceived | passReceived | lapseReceived | bindReceived | paceReceived
  | raiseReceived | askReceived | vetoReceived | dropReceived =>
    simp only [receivedFrame, Option.some.injEq, Prod.mk.injEq] at received
    obtain ⟨rfl, rfl⟩ := received
    simp only [Instr.content, bigEndian_two, two, List.cons_append, List.nil_append, Option.some.injEq] at stands
    refine ⟨_, _, stands.symm, by decide, by decide, rfl, ?_⟩
    simp only [contentCommand, header_kind, ofHeader_header, word16_two, Nat.reduceLT]
  | _ => exact absurd received nofun

/-- Settles O60: stuffed content is read back bit by bit, the closing run splits it where its last byte ends, and the checks of
whole bytes are those of R139. -/
theorem lineFramesRoundTrip : Obligations.LineFramesRoundTrip := by
  refine ⟨fun dt arb c content received stands => ?_, fun bytes most => judgeLine_bytes most,
    fun content rest => ⟨fun fits => judgeLine_eighthDominant fits rest, fun long => judgeLine_overlong long rest,
      judgeLine_incomplete, fun fits last => ⟨fun past => ?_, fun k bytes most whole => ?_⟩⟩⟩
  · obtain ⟨kind, payload, rfl, least, most, length, command⟩ := content_frame received stands
    have code := header_kind arb (show kind < 16 by omega)
    have short := payloadLength_most kind
    have valid : judgeLine (frameBits (arb.header kind :: payload)) = .valid (arb.header kind) payload := by
      rw [frameBits_eq, judgeLine_bytes (by rw [List.length_append, List.length_cons, length]; show _ + 2 ≤ 12; omega)]
      exact bytesVerdict_frame (by omega) (by rw [code, length])
    unfold lineCommand
    rw [valid]
    exact command
  · rw [judgeLine_dominantEnd fits last, endFrame_notWhole past]
  · rw [judgeLine_dominantEnd fits last, endFrame_whole most (by rw [← whole, bytesBits_length]; omega), ← whole,
      checkContent_bytesBits]

end Sys2Proof.Machine
end


section
/-!
The position of a station (R14, R80, R130, R147 to R151): CLAIMs that it hears, sends and repeats.
-/

namespace Sys2Proof.Machine

variable {s : State}

/-! ### CLAIMs heard -/

/-- A CLAIM that is no position clash reaches the start-up unit, and the record of a neighbour that sent it is refreshed behind
it (R80, R138, R141). -/
theorem exec_claimReceived (dt : Nat) {arb : Arbitration} (position flags : Byte) (reading : s.reading = true)
    (noClash : ¬ (s.startup.station.operating = true ∧ arb.position = s.startup.position)) :
    exec (.claimReceived dt arb position flags) s
      = .next (((s.delivered dt).claimArrives arb position flags).refreshFrom arb) :=
  (exec_receivedFrame rfl s).trans (congrArg _ (s.receive_acts dt arb _ reading noClash))

/-- Outside PLACED, TRACKING and PARKED no neighbour record is refreshed (R80). -/
theorem State.refreshFrom_idle (s : State) (arb : Arbitration) (waits : s.startup.station.operating = false) :
    s.refreshFrom arb = s := if_neg (ne_true_of_eq_false waits)

/-- A CLAIM whose position field differs from its arbitration position is ignored (R147). -/
theorem State.claimArrives_mismatch (d : State) (arb : Arbitration) {position : Byte} (flags : Byte)
    (differs : position.toNat ≠ arb.position) : d.claimArrives arb position flags = d := if_pos differs

section Matching

variable (d : State) {arb : Arbitration} {position : Byte} (flags : Byte) (same : position.toNat = arb.position)

include same

/-- UNSET: the CLAIM is recorded, and a station that may chooses its position (R147). -/
theorem State.claimArrives_unset (unset : d.startup.station = .unset) :
    d.claimArrives arb position flags
      = if d.startup.straps.first = false ∧ d.pins.chainIn = true then
          (d.hearClaim arb.position flags).choosePosition arb.position
        else d.hearClaim arb.position flags := by
  unfold State.claimArrives
  rw [if_neg (not_not_intro same), unset]

/-- CLAIMING: the CLAIM is recorded (R148). -/
theorem State.claimArrives_claiming (claiming : d.startup.station = .claiming) :
    d.claimArrives arb position flags = d.hearClaim arb.position flags := by
  unfold State.claimArrives
  rw [if_neg (not_not_intro same), claiming]

/-- PLACED, TRACKING and PARKED: the CLAIM is recorded, and the successor's stops the claim repeat (R150, R151). -/
theorem State.claimArrives_operating (operating : d.startup.station.operating = true) :
    d.claimArrives arb position flags
      = if d.fromDownstream arb then (d.hearClaim arb.position flags).stopClaimRepeat
        else d.hearClaim arb.position flags := by
  unfold State.claimArrives
  rw [if_neg (not_not_intro same)]
  obtain placed | tracking | parked := (StationState.operating_iff _).mp operating
  · rw [placed]
  · rw [tracking]
  · rw [parked]

end Matching

/-! ### The choice of a position -/

/-- A station whose places are empty chooses a position and queues its own CLAIM (R147, R148). -/
theorem State.choosePosition_free (d : State) {claimed : Nat} (below : claimed < 8) (empty : d.mill.queue = []) :
    d.choosePosition claimed
      = { d with
          startup := { d.startup with station := .claiming, position := claimed + 1 }
          mill :=
            { d.mill with
              queue :=
                [{ body := .claim (claimed + 1) d.startup.straps.first d.startup.straps.last, age := none,
                   flying := false }] } } := by
  unfold State.choosePosition State.enterClaiming
  rw [if_pos (by omega), State.enqueue_room _ _ _ rfl (by simp [empty])]
  simp only [empty, State.claimBody, List.nil_append]

/-- Entering STOPPED, field by field (R14). -/
theorem State.enterStopped_stops (d : State) : d.stops d.enterStopped := by
  refine ⟨rfl, fun n => ?_⟩
  have all : (255#8).getLsbD n = true := by
    revert n
    decide
  simp [State.enterStopped, all, TrainLine.stopWindow]

/-- A ninth station is refused (R14, R147). -/
theorem State.choosePosition_ninth (d : State) {claimed : Nat} (eighth : claimed = 8)
    (room : d.port.actions.length < 16) :
    d.choosePosition claimed
      = State.enterStopped
          { d with
            port :=
              d.port.posted [{ kind := .fault, serial := 0#16, feature := 9#8, tag := 255#8, value := 6#16 }] } := by
  unfold State.choosePosition
  rw [eighth, if_neg (by decide), d.post_room _ room]
  rfl

/-- Settles O17: ignored, recorded, or recorded with a position chosen or refused. -/
theorem claimChoosesPosition : Obligations.ClaimChoosesPosition := by
  intro dt arb position flags s reading unset heard d
  have waits : s.startup.station.operating = false := by rw [unset]; rfl
  have run :
      exec (.claimReceived dt arb position flags) s = .next ((d.claimArrives arb position flags).refreshFrom arb) :=
    exec_claimReceived dt position flags reading fun clash => ne_true_of_eq_false waits clash.1
  refine ⟨fun differs => ?_, fun same stays => ?_, fun same notFirst chained below empty => ?_,
    fun same notFirst chained eighth room => ?_⟩
  · rw [run, d.claimArrives_mismatch arb flags differs, d.refreshFrom_idle arb waits]
  · have noChoice : ¬ (d.startup.straps.first = false ∧ d.pins.chainIn = true) := by
      rintro ⟨notFirst, high⟩
      obtain first | low := stays
      · exact absurd (first.symm.trans notFirst) nofun
      · exact absurd (low.symm.trans high) nofun
    rw [run, d.claimArrives_unset flags same unset, if_neg noChoice, State.refreshFrom_idle _ _ (by exact waits)]
    rfl
  · rw [run, d.claimArrives_unset flags same unset, if_pos ⟨notFirst, chained⟩,
      State.choosePosition_free _ below (by exact empty), State.refreshFrom_idle _ _ rfl, ← notFirst]
    rfl
  · refine ⟨_, run.trans ?_, State.enterStopped_stops _⟩
    rw [d.claimArrives_unset flags same unset, if_pos ⟨notFirst, chained⟩,
      State.choosePosition_ninth _ eighth (by exact room), State.refreshFrom_idle _ _ rfl]
    rfl

/-! ### CLAIMs heard by a station that has a position -/

/-- Settles O18: recorded in CLAIMING; in PLACED, TRACKING and PARKED recorded, acted on, and its sender refreshed. -/
theorem claimFromSuccessorStopsRepeat : Obligations.ClaimFromSuccessorStopsRepeat := by
  intro dt arb position flags s reading heard d c
  have run (noClash : ¬ (s.startup.station.operating = true ∧ arb.position = s.startup.position)) :
      exec c s = .next ((d.claimArrives arb position flags).refreshFrom arb) :=
    exec_claimReceived dt position flags reading noClash
  constructor
  · intro claiming
    have waits : s.startup.station.operating = false := by rw [claiming]; rfl
    rw [run fun clash => ne_true_of_eq_false waits clash.1]
    split_ifs with same
    · rw [d.claimArrives_claiming flags same claiming, State.refreshFrom_idle _ _ (by exact waits)]
      rfl
    · rw [d.claimArrives_mismatch arb flags same, d.refreshFrom_idle arb waits]
  · intro operating other room refreshed
    have refresh (u : State) (station : u.startup.station = s.startup.station) (port : u.port = s.port) :=
      u.refreshFrom_room arb (by rw [station]; exact operating) (by rw [port]; exact room)
    rw [run fun clash => other clash.2]
    refine ⟨fun differs => ?_, fun same elsewhere => ?_, fun same successor => ?_⟩
    · rw [d.claimArrives_mismatch arb flags differs, refresh d rfl rfl]
      rfl
    · have apart : ¬ d.fromDownstream arb = true := mt eq_of_beq elsewhere
      rw [d.claimArrives_operating flags same operating, if_neg apart,
        refresh (d.hearClaim arb.position flags) rfl rfl]
      rfl
    · have below : d.fromDownstream arb = true := beq_iff_eq.mpr successor
      rw [d.claimArrives_operating flags same operating, if_pos below,
        refresh (d.hearClaim arb.position flags).stopClaimRepeat rfl rfl]
      rfl

/-! ### The own CLAIM -/

/-- The CLAIM of a station in CLAIMING is sent (R144, R149). -/
theorem State.flightSent_claim {f : Flight} {position : Nat} {first last : Bool}
    (source : f.source = .place (.claim position first last)) (claiming : s.startup.station = .claiming) :
    s.flightSent f = s.dropFlying.enterPlaced := by
  unfold State.flightSent
  rw [source]
  exact if_pos ⟨rfl, claiming⟩

/-- The silence timer of a neighbour record starts where the station keeps the record: on the side to which it is not
strapped (R80). -/
theorem Neighbour.startTimer_not (n : Neighbour) (strapped : Bool) (deadline : Nat) :
    n.startTimer (!strapped) deadline = if strapped then n else { n with silence := some deadline } := by
  cases strapped <;> rfl

/-- The start-up unit of a station that is PLACED (R149, R151). -/
theorem State.enterPlaced_startup (s : State) :
    s.enterPlaced.startup
      = { s.startup with
          station := .placed, chainOut := true
          claimRepeat :=
            if s.startup.straps.last = false ∧ s.startup.position < 8 then some (s.now + 10000)
            else s.startup.claimRepeat } := by
  have repeats : s.repeatsClaim = true ↔ s.startup.straps.last = false ∧ s.startup.position < 8 := by
    simp [State.repeatsClaim]
  simp only [← repeats]
  rfl

/-- The timers of a station that is PLACED (R78, R80). -/
theorem State.enterPlaced_handoff (s : State) :
    s.enterPlaced.handoff
      = { s.handoff with
          paceTimer := some (s.now + s.startup.config.pacePeriod * 1000)
          up :=
            if s.startup.straps.first then s.handoff.up
            else { s.handoff.up with silence := some (s.now + s.startup.config.silenceTime) }
          down :=
            if s.startup.straps.last then s.handoff.down
            else { s.handoff.down with silence := some (s.now + s.startup.config.silenceTime) } } := by
  rw [← Neighbour.startTimer_not, ← Neighbour.startTimer_not]
  rfl

/-- A RAISE is merged for every contribution of a station that is PLACED (R130). -/
theorem State.enterPlaced_mill (s : State) :
    s.enterPlaced.mill
      = { s.mill with slots := { s.mill.slots with raise := s.mill.slots.raise.merge s.now s.contributions } } := rfl

/-- Settles O19: the attempt ends with its receiver reading on, its place is emptied, and the station is PLACED. -/
theorem claimSentPlacesStation : Obligations.ClaimSentPlacesStation := by
  intro dt position first last wire s claiming flying silence
  have run := exec_frameSent dt flying
  rw [State.flightSent_claim rfl (by exact claiming)] at run
  refine ⟨_, run, State.enterPlaced_startup _, State.enterPlaced_handoff _, State.enterPlaced_mill _,
    Slot.merge_mask _ _ _, State.slotsTimed_merge _ .raise _, ⟨rfl, rfl, rfl, rfl⟩, rfl, rfl, rfl, rfl, rfl, rfl⟩

/-! ### The claim repeat -/

/-- The claim repeat timer runs out while a CLAIM has a place: it restarts (R150; log entry 15). -/
theorem exec_claimRepeatExpiry_waiting {deadline : Nat} (runs : s.startup.claimRepeat = some deadline)
    (waiting : s.mill.queue.any (fun f => f.body.isClaim) = true) :
    exec .claimRepeatExpiry s
      = .next
          { s with
            now := max s.now deadline
            startup := { s.startup with claimRepeat := some (max s.now deadline + 10000) } } := by
  unfold exec execClaimRepeatExpiry
  dsimp only
  rw [runs]
  dsimp only
  rw [if_pos (by exact waiting)]
  rfl

/-- The claim repeat timer runs out while no CLAIM has a place: the own CLAIM is queued, and it restarts (R150). -/
theorem exec_claimRepeatExpiry_queues {deadline : Nat} (runs : s.startup.claimRepeat = some deadline)
    (noClaim : s.mill.queue.any (fun f => f.body.isClaim) = false) :
    exec .claimRepeatExpiry s
      = .next
          { s with
            now := max s.now deadline
            startup := { s.startup with claimRepeat := some (max s.now deadline + 10000) }
            mill := ((s.reach deadline).enqueue s.claimBody none).mill } := by
  unfold exec execClaimRepeatExpiry
  dsimp only
  rw [runs]
  dsimp only
  rw [if_neg (by exact ne_true_of_eq_false noClaim), State.enqueue_routine _ _ _ rfl]
  rfl

/-- Settles O20: the timer restarts; a CLAIM has a place, finds one, or is lost with its count. -/
theorem claimRepeatResult : Obligations.ClaimRepeatResult := by
  refine fun s => ⟨fun stopped => ?_, fun deadline runs => ?_⟩
  · simp [exec, execClaimRepeatExpiry, stopped]
  refine ⟨exec_claimRepeatExpiry_waiting runs, fun noClaim room => ?_, fun noClaim full => ?_⟩
  · have placed := (s.reach deadline).enqueue_room s.claimBody none rfl room
    rw [exec_claimRepeatExpiry_queues runs noClaim, placed]
    rfl
  · have noPace (pace : s.claimBody.isPace = true) : ∀ g ∈ s.mill.queue, g.body.isPace = false :=
      Bool.noConfusion pace
    have lost := State.enqueue_full (s := s.reach deadline) none noPace full
    rw [exec_claimRepeatExpiry_queues runs noClaim, lost]
    rfl

end Sys2Proof.Machine
end

section
/-!
The configuration record (R119, R152 to R155): CONFIGURE of numeric items and of maps, and CLOSE.
-/

namespace Sys2Proof.Machine

variable {s : State}

/-! ### CONFIGURE -/

/-- The station states in which the configuration record is open (R152). -/
theorem StationState.open_iff (st : StationState) : st.open = true ↔ st = .unset ∨ st = .claiming ∨ st = .placed := by
  cases st <;> simp [StationState.open]

theorem exec_configure_number (dt : Nat) {item : Byte} (v3 v2 v1 v0 : Byte) (isOpen : s.startup.station.open = true)
    (number : ¬ (11 ≤ item.toNat ∧ item.toNat ≤ 16)) :
    exec (.configure dt [item, v3, v2, v1, v0]) s
      = .next
          ((s.elapse dt).configureNumber item.toNat
            (v3.toNat * 16777216 + v2.toNat * 65536 + v1.toNat * 256 + v0.toNat)) := by
  have spelled :
      ofBigEndian [v3, v2, v1, v0] = v3.toNat * 16777216 + v2.toNat * 65536 + v1.toNat * 256 + v0.toNat := by
    simp [ofBigEndian]
    omega
  rw [← spelled]
  exact congrArg Host.Outcome.next ((if_pos isOpen).trans (if_neg (by simpa [isMapItem] using number)))

theorem exec_configure_map (dt : Nat) {item : Byte} (v3 v2 inversion lines : Byte)
    (isOpen : s.startup.station.open = true) (map : 11 ≤ item.toNat ∧ item.toNat ≤ 16) :
    exec (.configure dt [item, v3, v2, inversion, lines]) s
      = .next ((s.elapse dt).configureMap item.toNat lines inversion) :=
  congrArg Host.Outcome.next ((if_pos isOpen).trans (if_pos (by simpa [isMapItem] using map)))

/-! ### Numeric items -/

/-- The numeric items are 1 to 10 (R152). -/
theorem itemValue_none (last : Bool) (zoneLength v : Nat) {item : Nat} (outside : item = 0 ∨ 10 < item) :
    itemValue last zoneLength item v = none := by
  unfold itemValue
  split
  case h_11 => rfl
  all_goals omega

/-- A number that names no numeric item is answered BAD_VALUE (R152). -/
theorem State.configureNumber_none (dt : Nat) {item v : Nat}
    (unnamed : itemValue s.startup.straps.last s.startup.config.zoneLength item v = none) :
    (s.elapse dt).configureNumber item v = s.answered dt 1#8 .badValue := by
  unfold State.configureNumber
  simp only [State.elapse_fields, unnamed]
  exact s.elapse_answer dt _ _

/-- A numeric item takes its clamped value (R152, R153). -/
theorem State.configureNumber_some (dt : Nat) {item v w : Nat}
    (taken : itemValue s.startup.straps.last s.startup.config.zoneLength item v = some w) :
    (s.elapse dt).configureNumber item v
      = { s.answered dt 1#8 (if w = v then .done else .clamped) with
          startup := { s.startup with config := s.startup.config.writeItem item w } } := by
  unfold State.configureNumber
  simp only [State.elapse_fields, taken]
  rw [← State.elapse_answer]
  rfl

/-- A value clamped to a range: below it, above it, or as it stands (section 4). -/
theorem clampTo_eq {lo hi : Nat} (range : lo ≤ hi) (v : Nat) :
    clampTo lo hi v = if v < lo then lo else if hi < v then hi else v := by
  unfold clampTo
  split_ifs <;> omega

/-- Settles O21: each numeric item takes the value that its range leaves. -/
theorem configureNumericResult : Obligations.ConfigureNumericResult := by
  intro dt item v3 v2 v1 v0 s station v c writes clamp
  have isOpen := (StationState.open_iff _).mpr station
  have takes {n : Byte} {w : Nat} (named : item = n) (number : ¬ (11 ≤ n.toNat ∧ n.toNat ≤ 16))
      (taken : itemValue s.startup.straps.last c.zoneLength n.toNat v = some w) : writes w (c.writeItem n.toNat w) := by
    subst named
    exact (exec_configure_number dt v3 v2 v1 v0 isOpen number).trans (congrArg _ (State.configureNumber_some dt taken))
  have clamped {lo hi : Nat} (range : lo ≤ hi) : clampTo lo hi v = clamp lo hi := clampTo_eq range v
  have halved {lo hi : Nat} (range : lo ≤ hi) :
      min (c.zoneLength / 2) (clampTo lo hi v) = min (clamp lo hi) (c.zoneLength / 2) := by
    rw [clamped range, Nat.min_comm]
  have lengths : 500 ≤ zoneLengthMost s.startup.straps.last := by
    unfold zoneLengthMost
    split_ifs <;> decide
  refine ⟨fun named => takes named (by decide) (congrArg some (clamped lengths)),
    fun named => takes named (by decide) (congrArg some (clamped (by decide))),
    fun named => takes named (by decide) (congrArg some (clamped (by decide))),
    fun named => takes named (by decide) (congrArg some (clamped (by decide))),
    fun named => takes named (by decide) (congrArg some (clamped (by decide))),
    fun named => takes named (by decide) (congrArg some (halved (by decide))),
    fun named => takes named (by decide) (congrArg some (halved (by decide))),
    fun named => takes named (by decide) (congrArg some (clamped (by decide))),
    fun named => takes named (by decide) (congrArg some (clamped (by decide))),
    fun named => takes named (by decide) (congrArg some (clamped (by decide))), fun outside => ?_⟩
  have unnamed : item.toNat = 0 ∨ 16 < item.toNat := outside.imp_left (congrArg BitVec.toNat)
  exact (exec_configure_number dt v3 v2 v1 v0 isOpen (by omega)).trans
    (congrArg _ (State.configureNumber_none dt (itemValue_none _ _ _ (by omega))))

/-! ### Maps -/

theorem State.merge_none (s : State) (kind : LineKind) : s.merge kind 0#8 = s := by cases kind <;> rfl

theorem State.unmerge_none (s : State) (kind : LineKind) : s.unmerge kind 0#8 = s := by
  have stands (slot : Slot) : slot.remove 0#8 = slot := if_pos BitVec.and_zero
  unfold State.unmerge State.modifySlot
  rw [Slots.modify_eq_self _ _ stands]

theorem State.mapLines_none (s : State) (f : TrainLine → TrainLine) : s.mapLines 0#8 f = s := rfl

/-- Where no line is concerned, nothing is formed afresh (R117). -/
theorem State.formContributions_none (s : State) : s.formContributions 0#8 = s := by
  have rise : s.contributionsRise 0#8 = s := by
    simp only [State.contributionsRise, State.endAsks, BitVec.zero_and, State.merge_none, State.unmerge_none,
      State.mapLines_none]
  have fall : s.contributionsFall 0#8 = s := by
    simp only [State.contributionsFall, State.beginAsks, BitVec.zero_and, State.merge_none, State.unmerge_none,
      State.mapLines_none]
  unfold State.formContributions
  simp only [BitVec.zero_and, State.mapLines_none, rise, fall, ite_self]

/-- The state with another configuration record, `dt` µs on (R152). -/
def State.configured (s : State) (dt : Nat) (c : Configuration) : State := (s.elapse dt).withConfig c

theorem State.configured_answer (s : State) (dt : Nat) (c : Configuration) (a : Answer) :
    (s.configured dt c).answer 1#8 a = { s.answered dt 1#8 a with startup := { s.startup with config := c } } := by
  rw [← State.elapse_answer]
  rfl

/-- An inversion other than off and on is refused (R154). -/
theorem State.configureMap_refused (dt item : Nat) (lines : Byte) {inversion : Byte} (off : inversion ≠ 0#8)
    (on : inversion ≠ 1#8) : (s.elapse dt).configureMap item lines inversion = s.answered dt 1#8 .badValue := by
  unfold State.configureMap
  rw [inversionOfByte, if_neg off, if_neg on]
  exact s.elapse_answer dt _ _

/-- A map is written whole, and the contributions of its lines are formed afresh (R119, R154). -/
theorem State.configureMap_written (s : State) (dt item : Nat) (lines : Byte) (inv : Bool) :
    (s.elapse dt).configureMap item lines (if inv then 1#8 else 0#8)
      = ((s.configured dt (s.startup.config.writeMap item ⟨lines, inv⟩)).formContributions
          (s.startup.config.mapLines item ⟨lines, inv⟩)).answer 1#8 .done := by
  cases inv <;> rfl

/-- While the record is open, contributions formed afresh follow their sources, with the exchange in PLACED alone (R117, R121,
R122). -/
theorem State.view_formContributions_open (s : State) (m : LineMask) (isOpen : s.startup.station.open = true)
    (n : Fin 8) :
    (s.formContributions m).view n
      = if m.getLsbD n = false then s.view n
        else if s.startup.station = .placed then (s.view n).formed (s.sources.getLsbD n)
        else { s.view n with line := { (s.view n).line with contribution := s.sources.getLsbD n } } := by
  rw [State.view_formContributions_all]
  obtain unset | claiming | placed := (StationState.open_iff _).mp isOpen
  · simp [unset, StationState.operating]
  · simp [claiming, StationState.operating]
  · simp [placed, StationState.operating]

/-- Settles O22: the inversion refused, or the map written and its lines, if any, formed afresh. -/
theorem configureMapResult : Obligations.ConfigureMapResult := by
  intro dt item v3 v2 inversion lines s station map c answer writes writesSigin
  have isOpen := (StationState.open_iff _).mpr station
  have run := exec_configure_map dt v3 v2 inversion lines isOpen map
  refine ⟨fun off on => ?_, fun inv inverts => ?_⟩
  · rw [run, State.configureMap_refused dt _ lines off on]
  · have written := run.trans (congrArg _ (inverts ▸ s.configureMap_written dt item.toNat lines inv))
    have sigout {n : Byte} {c' : Configuration} (named : item = n) (config : c.writeMap n.toNat ⟨lines, inv⟩ = c')
        (unmapped : c.mapLines n.toNat ⟨lines, inv⟩ = 0#8) : writes c' := by
      rw [named, config, unmapped, State.formContributions_none, State.configured_answer, ← named] at written
      exact written
    have sigin {n : Byte} {c' : Configuration} {old : LineMask} (named : item = n)
        (config : c.writeMap n.toNat ⟨lines, inv⟩ = c') (mapped : c.mapLines n.toNat ⟨lines, inv⟩ = old ||| lines) :
        writesSigin old c' := by
      rw [named, config, mapped, ← named] at written
      let d := s.configured dt c'
      have only := (d.formContributions_onlyLines (old ||| lines)).answer 1#8 .done
      rw [State.configured_answer] at only
      refine ⟨_, written, only, fun n => ?_, d.slotsTimed_formContributions _⟩
      have formed := d.view_formContributions_open (old ||| lines) isOpen n
      rw [← State.formContributions_sources d (old ||| lines)] at formed
      exact formed
    exact ⟨fun named => sigout named rfl rfl, fun named => sigout named rfl rfl, fun named => sigout named rfl rfl,
      fun named => sigout named rfl rfl, fun named => sigin named rfl rfl, fun named => sigin named rfl rfl⟩

/-! ### CLOSE -/

theorem exec_close (dt : Nat) (placed : s.startup.station = .placed) :
    exec (.close dt []) s = .next (s.elapse dt).closeConfiguration :=
  congrArg Host.Outcome.next (if_pos (by simp [placed]))

/-- Margins in their ranges are clamped to half the zone length alone (R153, R155). -/
theorem Configuration.closed_eq (c : Configuration) (late : 50 ≤ c.lateMargin ∧ c.lateMargin ≤ 5000)
    (early : c.earlyWindow ≤ 5000) :
    c.closed
      = { c with
          lateMargin := min c.lateMargin (c.zoneLength / 2), earlyWindow := min c.earlyWindow (c.zoneLength / 2) } := by
  have lateValue : clampLate c.zoneLength c.lateMargin = min c.lateMargin (c.zoneLength / 2) := by
    unfold clampLate clampTo
    omega
  have earlyValue : clampEarly c.zoneLength c.earlyWindow = min c.earlyWindow (c.zoneLength / 2) := by
    unfold clampEarly clampTo
    omega
  rw [Configuration.closed, lateValue, earlyValue]

/-- Settles O23: the record closed, travel started and the detectors armed, with the answer last. -/
theorem closeResult : Obligations.CloseResult := by
  intro dt s placed lateRange earlyRange room late early l a fault
  rw [exec_close dt placed]
  unfold State.closeConfiguration
  dsimp only
  rw [State.armDetectors_eq _ (by exact room)]
  simp only [State.elapse_fields, s.startup.config.closed_eq lateRange earlyRange]
  rw [State.answer, State.answerData, responseBlock_nil]
  rfl

end Sys2Proof.Machine
end

section
/-!
The checks of the controller port (R156 to R158): how a transaction's bytes are judged, and the two checks that every command
of the table passes through.
-/

namespace Sys2Proof.Machine

variable {s : State} {dt : Nat} {code : Byte}

/-! ### Judging a block -/

/-- The check byte is tested on the sum of the bytes as numbers (R157). -/
theorem blockSum_toNat (bs : List Byte) : (blockSum bs).toNat = (bs.map BitVec.toNat).sum % 256 := by
  rw [blockSum_eq]
  induction bs with
  | nil => rfl
  | cons b bs ih => rw [List.sum_cons, List.map_cons, List.sum_cons, BitVec.toNat_add, ih, Nat.add_mod_mod]

theorem blockSum_ne_zero_iff (bs : List Byte) : blockSum bs ≠ 0#8 ↔ (bs.map BitVec.toNat).sum % 256 ≠ 0 := by
  rw [← blockSum_toNat, ne_eq, ← BitVec.toNat_inj]
  rfl

/-- A block of which nothing is taken (R156). -/
theorem judgeBlock_null {bytes : List Byte} (null : bytes = [] ∨ bytes.head? = some 0#8) : judgeBlock bytes = .null := by
  cases bytes with
  | nil => rfl
  | cons len rest => exact if_pos (Option.some.inj (null.resolve_left (List.cons_ne_nil _ _)))

/-- A block with a length byte other than 0 fails the checks of R157. -/
def blockFails (len : Byte) (rest : List Byte) : Prop :=
  len.toNat < 3 ∨ rest.length + 1 < len.toNat ∨ (((len :: rest).take len.toNat).map BitVec.toNat).sum % 256 ≠ 0

theorem judgeBlock_fails {len : Byte} {rest : List Byte} (nonzero : len ≠ 0#8) (fails : blockFails len rest) :
    judgeBlock (len :: rest)
      = .failed
          (if ((len :: rest).take len.toNat).length < 2 then 0#8 else ((len :: rest).take len.toNat).getD 1 0#8) := by
  rw [blockFails, ← blockSum_ne_zero_iff] at fails
  exact (if_neg nonzero).trans (if_pos fails)

theorem judgeBlock_sound {len : Byte} {rest : List Byte} (nonzero : len ≠ 0#8) (sound : ¬ blockFails len rest) :
    judgeBlock (len :: rest)
      = .sound (((len :: rest).take len.toNat).getD 1 0#8) (((len :: rest).take len.toNat).drop 2).dropLast := by
  rw [blockFails, ← blockSum_ne_zero_iff] at sound
  exact (if_neg nonzero).trans (if_neg sound)

/-- A sound block's parameters are its bytes but the length, the code and the check byte (section 9.6.2). -/
theorem soundParams_length {len : Byte} {rest : List Byte} (sound : ¬ blockFails len rest) :
    (((len :: rest).take len.toNat).drop 2).dropLast.length + 3 = len.toNat := by
  obtain ⟨long, whole, -⟩ := not_or.mp sound |>.imp_right not_or.mp
  simp only [List.length_dropLast, List.length_drop, List.length_take, List.length_cons]
  omega

/-- What a block that fails its checks is answered (R157; log entry 16). -/
theorem exec_blockCheckFailed {bytes : List Byte} (failed : judgeBlock bytes = .failed code) :
    exec (.blockCheckFailed dt bytes) s = .next (s.answered dt code .checkFailed) := by
  simp only [exec, execBlockCheckFailed, failed, State.elapse_answer]

theorem portCommand_failed {bytes : List Byte} (failed : judgeBlock bytes = .failed code) :
    portCommand dt bytes = .blockCheckFailed dt bytes := by
  rw [portCommand, failed]

theorem portCommand_sound {bytes params : List Byte} (sound : judgeBlock bytes = .sound code params) :
    portCommand dt bytes = blockCommand dt code params := by
  rw [portCommand, sound]

/-! ### Codes that name no command -/

theorem exec_unknownCommand (unnamed : ¬ (1 ≤ code.toNat ∧ code.toNat ≤ 20)) :
    exec (.unknownCommand dt code) s = .next (s.answered dt code .unknown) := by
  rw [← State.elapse_answer]
  exact congrArg Host.Outcome.next (if_neg (by simpa [knownCode] using unnamed))

theorem blockCommand_unnamed (params : List Byte) (unnamed : ¬ (1 ≤ code.toNat ∧ code.toNat ≤ 20)) :
    blockCommand dt code params = .unknownCommand dt code := by
  unfold blockCommand
  split
  case h_21 => rfl
  all_goals omega

/-! ### The two checks of a command -/

/-- A command's body where its row of R158 takes it in the station state, and the answer WRONG_STATE elsewhere (R157). -/
def State.whenTaken (s : State) (dt : Nat) (code : Byte) (body : State → State) : State :=
  (s.elapse dt).whenAllowed code (takenIn code.toNat s.startup.station s.startup.straps.first) body

/-- A command of the table, as its code's row of R158 has it carried out: the number of its parameter bytes is checked first
and the station state next, and what the command itself does is `body` (R157). -/
def Checked (s : State) (dt : Nat) (code : Byte) (params : List Byte) (c : Instr) : Prop :=
  ∃ body : State → State,
    exec c s
      = .next
          (if params.length = parameterBytes code.toNat then s.whenTaken dt code body
           else (s.elapse dt).answer code .badValue)

theorem Checked.fits {params : List Byte} {c : Instr} {body : State → State}
    (length : params.length = parameterBytes code.toNat) (run : exec c s = .next (s.whenTaken dt code body)) :
    Checked s dt code params c :=
  ⟨body, by rw [run, if_pos length]⟩

theorem Checked.misfits {params : List Byte} {c : Instr} (length : params.length ≠ parameterBytes code.toNat)
    (run : exec c s = .next ((s.elapse dt).answer code .badValue)) : Checked s dt code params c :=
  ⟨id, by rw [run, if_neg length]⟩

/-- A command without parameters. -/
theorem Checked.none {command : List Byte → Instr} {body : State → State} (params : List Byte)
    (run : exec (command []) s = .next (s.whenTaken dt code body))
    (row : parameterBytes code.toNat = 0 := by rfl)
    (long : ∀ p ps, exec (command (p :: ps)) s = .next ((s.elapse dt).answer code .badValue) := by intros; rfl) :
    Checked s dt code params (command params) := by
  match params with
  | [] => exact .fits row.symm run
  | p :: ps => exact .misfits (by simp [row]) (long p ps)

/-- A command with one parameter byte. -/
theorem Checked.one {command : List Byte → Instr} {body : Byte → State → State} (params : List Byte)
    (run : ∀ a, exec (command [a]) s = .next (s.whenTaken dt code (body a)))
    (row : parameterBytes code.toNat = 1 := by rfl)
    (short : exec (command []) s = .next ((s.elapse dt).answer code .badValue) := by rfl)
    (long : ∀ a b l, exec (command (a :: b :: l)) s = .next ((s.elapse dt).answer code .badValue) := by intros; rfl) :
    Checked s dt code params (command params) := by
  match params with
  | [] => exact .misfits (by simp [row]) short
  | [a] => exact .fits row.symm (run a)
  | a :: b :: l => exact .misfits (by simp [row]) (long a b l)

/-- A command with two parameter bytes. -/
theorem Checked.two {command : List Byte → Instr} {body : Byte → Byte → State → State} (params : List Byte)
    (run : ∀ a b, exec (command [a, b]) s = .next (s.whenTaken dt code (body a b)))
    (row : parameterBytes code.toNat = 2 := by rfl)
    (empty : exec (command []) s = .next ((s.elapse dt).answer code .badValue) := by rfl)
    (short : ∀ a, exec (command [a]) s = .next ((s.elapse dt).answer code .badValue) := by intros; rfl)
    (long : ∀ a b c l, exec (command (a :: b :: c :: l)) s = .next ((s.elapse dt).answer code .badValue) := by
      intros; rfl) : Checked s dt code params (command params) := by
  match params with
  | [] => exact .misfits (by simp [row]) empty
  | [a] => exact .misfits (by simp [row]) (short a)
  | [a, b] => exact .fits row.symm (run a b)
  | a :: b :: c :: l => exact .misfits (by simp [row]) (long a b c l)

theorem announce_checked (params : List Byte) : Checked s dt 3#8 params (.announce dt params) := by
  match params with
  | [] | [_] | [_, _] | [_, _, _] | _ :: _ :: _ :: _ :: _ :: _ => exact .misfits (by simp [parameterBytes]) rfl
  | [_, _, _, _] => exact .fits rfl rfl

theorem configure_checked (params : List Byte) : Checked s dt 1#8 params (.configure dt params) := by
  have row (st : StationState) (first : Bool) : takenIn 1 st first = st.open := by cases st <;> rfl
  match params with
  | [] | [_] | [_, _] | [_, _, _] | [_, _, _, _] | _ :: _ :: _ :: _ :: _ :: _ :: _ =>
    exact .misfits (by simp [parameterBytes]) rfl
  | [_, _, _, _, _] => exact .fits rfl (by rw [State.whenTaken, BitVec.toNat_ofNat, row]; rfl)

/-- A command that is taken in PLACED, TRACKING and PARKED (R158). -/
theorem exec_whenOperating {c : Instr} {body : State → State}
    (run : exec c s = .next ((s.elapse dt).whenAllowed code s.startup.station.operating body))
    (row : ∀ st first, takenIn code.toNat st first = (st == .placed || st == .tracking || st == .parked) := by
      intros; rfl) :
    exec c s = .next (s.whenTaken dt code body) := by
  have states (st : StationState) : st.operating = (st == .placed || st == .tracking || st == .parked) := by
    cases st <;> rfl
  rw [run, State.whenTaken, row, states]

/-- The rows of R158: every code from 1 to 20 names a command that passes through the two checks. -/
theorem blockCommand_checked (named : 1 ≤ code.toNat ∧ code.toNat ≤ 20) (params : List Byte) :
    Checked s dt code params (blockCommand dt code params) := by
  obtain ⟨n, rfl, least, most⟩ : ∃ n, code = BitVec.ofNat 8 n ∧ 1 ≤ n ∧ n ≤ 20 := ⟨code.toNat, by simp, named⟩
  match n with
  | 1 => exact configure_checked params
  | 2 => exact .none (command := .close dt) params rfl
  | 3 => exact announce_checked params
  | 4 => exact .two (command := .withdraw dt) params fun _ _ => rfl
  | 5 => exact .one (command := .ready dt) params fun _ => exec_whenOperating rfl
  | 6 => exact .one (command := .unready dt) params fun _ => exec_whenOperating rfl
  | 7 => exact .none (command := .trip dt) params (exec_whenOperating rfl)
  | 8 => exact .none (command := .clearTrip dt) params (exec_whenOperating rfl)
  | 9 => exact .two (command := .signal dt) params fun _ _ => exec_whenOperating rfl
  | 10 => exact .none (command := .park dt) params rfl
  | 11 => exact .none (command := .resume dt) params rfl
  | 12 => exact .none (command := .clearTrack dt) params rfl
  | 13 => exact .two (command := .inhibit dt) params fun _ _ => rfl
  | 14 => exact .two (command := .slip dt) params fun _ _ => rfl
  | 15 => exact .none (command := .attnEnable dt) params rfl
  | 16 => exact .none (command := .attnDisable dt) params rfl
  | 17 => exact .none (command := .readActions dt) (body := State.readActions) params rfl
  | 18 => exact .none (command := .readZone dt) (body := fun u => u.answerData 18#8 .done u.readZoneData) params rfl
  | 19 => exact .none (command := .readStation dt) (body := fun u => u.answerData 19#8 .done u.readStationData) params rfl
  | 20 => exact .none (command := .clearCounts dt) params rfl
  | n + 21 => omega

/-- A number of parameters that is not the row's (R157). -/
theorem exec_blockCommand_badValue {params : List Byte} (named : 1 ≤ code.toNat ∧ code.toNat ≤ 20)
    (length : params.length ≠ parameterBytes code.toNat) :
    exec (blockCommand dt code params) s = .next (s.answered dt code .badValue) := by
  obtain ⟨body, run⟩ := blockCommand_checked (s := s) (dt := dt) named params
  rw [run, if_neg length, State.elapse_answer]

/-- A station state that is not one of the row's (R157). -/
theorem exec_blockCommand_wrongState {params : List Byte} (named : 1 ≤ code.toNat ∧ code.toNat ≤ 20)
    (length : params.length = parameterBytes code.toNat)
    (refused : takenIn code.toNat s.startup.station s.startup.straps.first = false) :
    exec (blockCommand dt code params) s = .next (s.answered dt code .wrongState) := by
  obtain ⟨body, run⟩ := blockCommand_checked (s := s) (dt := dt) named params
  rw [run, if_pos length, State.whenTaken, refused, ← State.elapse_answer]
  rfl

/-! ### O4 and O5 -/

/-- Settles O4: the bytes are judged, and what a sound block names passes through the checks of its command. -/
theorem portJudgesBlocks : Obligations.PortJudgesBlocks := by
  intro dt bytes s
  refine ⟨fun null => ?_, ?_⟩
  · rw [portCommand, judgeBlock_null null]
    rfl
  rintro len rest rfl nonzero block code failed named
  refine ⟨fun fails => ?_, ?_⟩
  · have judged := judgeBlock_fails nonzero fails
    rw [portCommand_failed judged]
    exact exec_blockCheckFailed judged
  have read (sound : ¬ failed) : portCommand dt (len :: rest) = blockCommand dt code (block.drop 2).dropLast :=
    portCommand_sound (judgeBlock_sound nonzero sound)
  have parameters (sound : ¬ failed) : (block.drop 2).dropLast.length + 3 = len.toNat := soundParams_length sound
  refine ⟨fun sound unnamed => ?_, fun sound known length => ?_, fun sound known length refused => ?_⟩
  · rw [read sound, blockCommand_unnamed _ unnamed]
    exact exec_unknownCommand unnamed
  · rw [read sound]
    exact exec_blockCommand_badValue known fun same => length (by rw [← parameters sound, same])
  · rw [read sound]
    exact exec_blockCommand_wrongState known (Nat.add_right_cancel ((parameters sound).trans length)) refused

/-- Byte 1 of a block that is read to its second byte. -/
theorem take_getD_one {len : Byte} {rest : List Byte} {n : Nat} (long : ¬ ((len :: rest).take n).length < 2) :
    ((len :: rest).take n).getD 1 0#8 = rest.getD 0 0#8 := by
  have most := List.length_take_le n (len :: rest)
  rw [List.getD_eq_getElem?_getD, List.getElem?_take_of_lt (by omega), List.getElem?_cons_succ,
    List.getD_eq_getElem?_getD]

/-- Settles O5: blocks that carry no command, and the checks of the commands of the table. -/
theorem portCommandsAreChecked : Obligations.PortCommandsAreChecked := by
  intro dt s
  refine ⟨rfl, fun len rest nonzero fails => ?_, fun code params => ⟨exec_unknownCommand, exec_blockCommand_badValue,
    exec_blockCommand_wrongState⟩⟩
  rw [exec_blockCheckFailed (judgeBlock_fails nonzero fails)]
  congr 2
  split_ifs with short
  · rfl
  · exact take_getD_one short

/-! ### O6 -/

/-- All bytes of a sealed block sum to 0 (section 9.6.2). -/
theorem blockSum_sealBlock (body : List Byte) : blockSum (sealBlock body) = 0#8 := by
  rw [sealBlock, blockSum_eq, List.sum_append, ← blockSum_eq, List.sum_singleton]
  bv_omega

/-- A sealed block is sound, and gives back the code and the parameters that it was sealed around (R157). -/
theorem judgeBlock_sealBlock (code : Byte) (params extra : List Byte) (short : params.length + 3 < 256) :
    judgeBlock (sealBlock (code :: params) ++ extra) = .sound code params := by
  obtain ⟨len, check, size, shape⟩ : ∃ len check : Byte,
      len.toNat = params.length + 3 ∧ sealBlock (code :: params) = len :: code :: (params ++ [check]) :=
    ⟨_, _, (BitVec.toNat_ofNat _ _).trans (Nat.mod_eq_of_lt short), rfl⟩
  have taken :
      (len :: (code :: (params ++ [check]) ++ extra)).take len.toNat = len :: code :: (params ++ [check]) :=
    List.take_left' (l₁ := len :: code :: (params ++ [check])) (by simp [size])
  have sum : blockSum (len :: code :: (params ++ [check])) = 0#8 := shape ▸ blockSum_sealBlock _
  have nonzero : len ≠ 0#8 := fun zero => by simp [zero] at size
  have sound : ¬ blockFails len (code :: (params ++ [check]) ++ extra) := by
    rw [blockFails, ← blockSum_ne_zero_iff, taken]
    simp [size, sum]
  rw [shape, List.cons_append, judgeBlock_sound nonzero sound, taken]
  simp

/-- Settles O6: what is judged is the sealed block, and its command is that of its code. -/
theorem portBlockRoundTrip : Obligations.PortBlockRoundTrip :=
  fun _ code params extra short => portCommand_sound (judgeBlock_sealBlock code params extra short)

end Sys2Proof.Machine
end

section
/-!
Attention, counts and the action queue by command (R159, R161, R162).
-/

namespace Sys2Proof.Machine

variable {s : State}

/-! ### Attention -/

theorem exec_attnEnable (dt : Nat) (runs : s.startup.station ≠ .stopped) :
    exec (.attnEnable dt []) s = .next (((s.elapse dt).setAttention true).answer 15#8 .done) :=
  congrArg Host.Outcome.next (if_pos (bne_iff_ne.mpr runs))

theorem exec_attnDisable (dt : Nat) (runs : s.startup.station ≠ .stopped) :
    exec (.attnDisable dt []) s = .next (((s.elapse dt).setAttention false).answer 16#8 .done) :=
  congrArg Host.Outcome.next (if_pos (bne_iff_ne.mpr runs))

/-- The answer to a command that moves the enable and nothing else (R162). -/
theorem State.setAttention_answered (s : State) (dt : Nat) (enable : Bool) (code : Byte) (a : Answer) :
    ((s.elapse dt).setAttention enable).answer code a
      = { s.answered dt code a with port := { (s.answered dt code a).port with attnEnable := enable } } := by
  rw [← State.elapse_answer]
  rfl

/-- Settles O11: the enable is written, and ATTN is the latch where it is set and low where it is not. -/
theorem attentionCommands : Obligations.AttentionCommands := by
  intro dt s runs
  refine ⟨⟨_, exec_attnEnable dt runs, s.setAttention_answered dt true _ _, ?_⟩,
    ⟨_, exec_attnDisable dt runs, s.setAttention_answered dt false _ _, ?_⟩⟩
  · exact Bool.and_true _
  · exact Bool.and_false _

/-! ### Counts -/

/-- Settles O12: refused in STOPPED, and otherwise the counts written and the command answered. -/
theorem clearCountsResult : Obligations.ClearCountsResult := by
  intro dt s
  split_ifs with stopped
  · exact exec_blockCommand_wrongState (code := 20#8) (by decide) rfl (by simp [takenIn, stopped])
  · have run : exec (.clearCounts dt []) s = .next ((s.elapse dt).zeroCounts.answer 20#8 .done) :=
      congrArg Host.Outcome.next (if_pos (bne_iff_ne.mpr stopped))
    rw [run, ← State.elapse_answer]
    rfl

/-! ### The action queue -/

/-- The bits of the flags byte stand apart, so that joining them is adding their values (section 9.6.3). -/
theorem Action.flags_eq (a : Action) :
    a.flags
      = BitVec.ofNat 8
          ((match a.ready with | .na => 0 | .no => 1 | .yes => 2) + 4 * a.inhibited.toNat + 8 * a.early.toNat
            + 16 * a.estimated.toNat + 32 * a.upEstimated.toNat + 64 * a.cls.toNat) := by
  obtain ⟨kind, serial, feature, tag, ready, inhibited, early, estimated, upEstimated, cls, value⟩ := a
  unfold Action.flags
  dsimp only
  cases ready
  all_goals
    revert inhibited early estimated upEstimated cls
    decide

theorem Action.bytes_eq (a : Action) : a.bytes = actionBytes a := by
  unfold Action.bytes actionBytes
  rw [bigEndian_two, bigEndian_two, Action.flags_eq]
  obtain ⟨kind, serial, feature, tag, ready, inhibited, early, estimated, upEstimated, cls, value⟩ := a
  cases kind <;> rfl

theorem responseBlock_length (code : Byte) (a : Answer) (data : List Byte) :
    (responseBlock code a data).length = data.length + 4 := sealBlock_length _

/-- The oldest records, at most 8, and the rest (R161). -/
theorem split_oldest {oldest rest : List Action} (most : oldest.length = min 8 (oldest ++ rest).length) :
    (oldest ++ rest).take 8 = oldest ∧ (oldest ++ rest).drop 8 = rest := by
  rw [List.length_append] at most
  obtain full | ⟨few, none⟩ : oldest.length = 8 ∨ oldest.length ≤ 8 ∧ rest.length = 0 := by omega
  · exact ⟨List.take_left' full, List.drop_left' full⟩
  · obtain rfl := List.eq_nil_of_length_eq_zero none
    rw [List.append_nil]
    exact ⟨List.take_of_length_le few, List.drop_eq_nil_of_le few⟩

/-- Settles O13: the queue is split behind its oldest records, and each of them is laid out by section 9.6.3. -/
theorem readActionsResult : Obligations.ReadActionsResult := by
  intro dt s oldest rest stands most
  obtain ⟨taken, left⟩ := split_oldest (stands ▸ most)
  rw [← stands] at taken left
  have data : (s.elapse dt).readActionsData
      = [BitVec.ofNat 8 oldest.length, s.port.overflow] ++ oldest.flatMap actionBytes := by
    rw [← funext Action.bytes_eq, ← taken]
    rfl
  have held : (s.elapse dt).readActions.port.held = responseBlock 17#8 .done (s.elapse dt).readActionsData := rfl
  refine ⟨(s.elapse dt).readActions, rfl, rfl, ?_, ?_, rfl, left, rfl, ?_, rfl⟩
  · rw [held, responseBlock_done, data]
  · rw [held, responseBlock_length, data, ← funext Action.bytes_eq]
    simp [Nat.mul_comm]
    omega
  · show (if (s.port.actions.drop 8).isEmpty then false else s.port.attnLatch) = _
    rw [left]
    cases rest <;> simp

end Sys2Proof.Machine
end


section
/-!
One step by the two shapes of the queue of waiting commands (section 1.3; log entries 3 and 17).
-/

namespace Sys2Proof.Machine

variable {s : State}

theorem step_of_empty (idle : s.pending = []) : step s = .next s := by
  rw [step, idle]

theorem step_of_front {c : Instr} {rest : List Instr} (front : s.pending = c :: rest) :
    step s = exec c { s with pending := rest } := by
  rw [step, front]

/-- A command put at the front of the queue meets the state that it was put into: the rest of the queue is the old queue. -/
theorem step_withFront (c : Instr) (s : State) : step (s.withFront c) = exec c s :=
  step_of_front (s := s.withFront c) rfl

/-- Settles O1: the two branches of a step, the command at the front and the empty queue. -/
theorem stepRunsFront : Obligations.StepRunsFront :=
  fun s => ⟨fun c => step_withFront c s, step_of_empty⟩

end Sys2Proof.Machine
end
